-- ==== Sys2Proof/Word.lean ====
section
/-! DEFINITION. The octet, the one word of the block (00_scope.md R8). -/

namespace Sys2Proof

/-- An octet: an unsigned integer 0 to 255, bit 0 the least significant (R8). -/
abbrev Byte := BitVec 8

end Sys2Proof
end

