-- ==== Sys2Proof/Config.lean ====
section
/-! DEFINITION. What is fixed for one instance of the block: the protocol constants (00_scope.md R7) and the
parameters (R4). -/

namespace Sys2Proof

/-- `START`, the start marker, first octet of every frame (R7). -/
abbrev startMarker : Byte := 0x7E#8

/-- `ESC`, the escape marker (R7). -/
abbrev escMarker : Byte := 0x7D#8

/-- `ESC_MASK`, the value XORed into the octet after `ESC` (R7). -/
abbrev escMask : Byte := 0x20#8

/-- `CSUM_OK`, the value the running sum must hold at completion (R7). -/
abbrev csumOk : Byte := 0xFF#8

/-- `HDR_LEN`, the octets before the payload: start marker and two length octets (R7). -/
abbrev hdrLen : Nat := 3

/-- `FIELDS_LEN`, the sum of the widths of the sample fields (R7, R121). -/
abbrev fieldsLen : Nat := 25

/-- `FP_SCALE`, the divisor of every two-octet fixed-point field (R7). -/
abbrev fpScale : Nat := 100

/-- The parameters of R4. They are no state (R10): they are fixed when an instance is built. -/
structure Config where
  /-- `MAX_FRAME`: the greatest number of logical octets one frame may have. -/
  maxFrame : Nat
  /-- `SUBHDR_LEN`: payload octets before the application command octet. -/
  subhdrLen : Nat
  /-- `APP_PREFIX_LEN`: octets from the command octet up to the first octet of `battery_voltage`. -/
  appPrefixLen : Nat
  /-- `LOST_THRESHOLD`: `lost` is set when the silent-tick counter exceeds this. -/
  lostThreshold : Nat
  /-- `GRACE_TICKS`: the grace comparison `counter < GRACE_TICKS`. -/
  graceTicks : Nat
  deriving DecidableEq, Repr

/-- The reference configuration, right-hand column of R4. DESIGN CHOICE (log entry 2): `MAX_FRAME` is OPEN (D6). -/
def Config.reference : Config :=
  { maxFrame := 256, subhdrLen := 21, appPrefixLen := 2, lostThreshold := 18, graceTicks := 5 }

/-- The field base `B = SUBHDR_LEN + APP_PREFIX_LEN` (R70). -/
def Config.fieldBase (c : Config) : Nat := c.subhdrLen + c.appPrefixLen

/-- `MIN_PAYLOAD_LEN = SUBHDR_LEN + APP_PREFIX_LEN + FIELDS_LEN` (R4, R126). -/
def Config.minPayloadLen (c : Config) : Nat := c.fieldBase + fieldsLen

/-- The constraints R4 puts on the parameters. -/
abbrev Config.Valid (c : Config) : Prop :=
  4 ≤ c.maxFrame ∧ c.maxFrame ≤ 65539 ∧ c.graceTicks ≤ c.lostThreshold

end Sys2Proof
end

