-- ==== Sys2Proof/Syntax.lean ====
section
/-! DEFINITION. What the block is given and what it performs: the input events (30_encoding.md R60), logical bytes
(R62), the positions that select an operation (41_frame_assembler.md R100), the keys the decoders look at
(R61, R68, R69) and the 17 operations of spec/opcode_table.json. -/

namespace Sys2Proof

/-- The four kinds of input event (R60). -/
inductive Event
  /-- `RAW b`: one octet from the transport. -/
  | raw (b : Byte)
  /-- `TICK`, from the timer. -/
  | tick
  /-- `LRESET`: the LinkWatcher's `reset()`, from the host. -/
  | lreset
  /-- `RESET`: the hardware reset of the whole block, from the host or power-on. -/
  | reset
  deriving DecidableEq, Repr

/-- A logical byte (R62): the octet and the tag that is 1 exactly when `D.UNESC` produced it. -/
structure LogicalByte where
  v : Byte
  escaped : Bool
  deriving DecidableEq, Repr

/-- The states of the FrameAssembler as the guards of R68 see them: the value of `pos` together with `dlen` and
`MAX_FRAME` (R100). -/
inductive Phase
  /-- AwaitStart: `pos = 0`. -/
  | awaitStart
  /-- ReadLengthHigh: `pos = 1`. -/
  | readLengthHigh
  /-- ReadLengthLow: `pos = 2`. -/
  | readLengthLow
  /-- `pos ≥ 3` and `pos ≥ MAX_FRAME`. -/
  | overflow
  /-- `pos ≥ 3`, below `MAX_FRAME`, and `pos < dlen + 3`. -/
  | payload
  /-- The rest: `pos = dlen + 3` (R100's last case). -/
  | checksum
  deriving DecidableEq, Repr

/-- What selects an operation: one constructor per format of spec/opcode_table.json's rows, the EVENT and INTERNAL
formats by the event or by what inside the block asks for the operation (R69). -/
inductive Key
  /-- RAW9: `esc_pending ++ b[7:0]` (R61). -/
  | raw9 (w : BitVec 9)
  /-- LB: `escaped ++ v[7:0]`, with the guard on the state (R68). -/
  | lb (ph : Phase) (w : BitVec 9)
  /-- EVENT: the `TICK` event. -/
  | tick
  /-- EVENT: the `LRESET` event. -/
  | lreset
  /-- EVENT: the `RESET` event. -/
  | reset
  /-- INTERNAL: a frame arrived (R147). -/
  | frameArrival
  /-- INTERNAL: a valid frame's payload goes to the SampleDecoder (R120). -/
  | framePayload (payload : List Byte)
  /-- FUNCTION: the continuous output `link_state` (R24). -/
  | linkOutput
  deriving DecidableEq, Repr

/-- The operations, one constructor per row of spec/opcode_table.json, in the table's order. -/
inductive Instr
  /-- `D.ESC` (R91): take an escape prefix. -/
  | dEsc
  /-- `D.UNESC` (R92): complete an escape sequence with the raw byte `b`. -/
  | dUnesc (b : Byte)
  /-- `D.LIT` (R93): pass the literal raw byte `b`. -/
  | dLit (b : Byte)
  /-- `A.START` (R101): open a frame attempt. -/
  | aStart (escaped : Bool)
  /-- `A.NOSTART` (R102): report a byte that is no start marker. -/
  | aNostart (escaped : Bool) (v : Byte)
  /-- `A.RESYNC` (R103): abandon the open attempt and start a new one on this byte. -/
  | aResync
  /-- `A.LENHI` (R104): take the high length octet. -/
  | aLenhi (escaped : Bool) (v : Byte)
  /-- `A.LENLO` (R105): take the low length octet. -/
  | aLenlo (escaped : Bool) (v : Byte)
  /-- `A.OVERSIZE` (R108): abandon an attempt that outgrew the buffer. -/
  | aOversize (escaped : Bool) (v : Byte)
  /-- `A.DATA` (R106): take a payload octet. -/
  | aData (escaped : Bool) (v : Byte)
  /-- `A.CSUM` (R107): take the checksum octet and finish the frame. -/
  | aCsum (escaped : Bool) (v : Byte)
  /-- `S.DECODE` (R129): decode a payload into the sample registers. -/
  | sDecode (payload : List Byte)
  /-- `L.ARRIVAL` (R142): `on_frame_arrival()`. -/
  | lArrival
  /-- `L.TICK` (R143): `on_tick()`. -/
  | lTick
  /-- `L.RESET` (R141): the LinkWatcher's `reset()`. -/
  | lReset
  /-- `L.CLASSIFY` (R144): `classify()`, the output `link_state`. -/
  | lClassify
  /-- `X.RESET` (R210): the hardware reset. -/
  | xReset
  deriving DecidableEq, Repr

end Sys2Proof
end

