-- ==== Sys2Proof/WellFormed.lean ====
section
/-! DEFINITION. Which operands the selecting guards of 30_encoding.md R61 and R68 admit; the guards on the state are
checked by the meanings. -/

namespace Sys2Proof

/-- A logical byte that is not an unescaped start marker: not guard 3 of R68. -/
def notFreshStart (escaped : Bool) (v : Byte) : Bool := !(v == startMarker && !escaped)

/-- The operands of an operation are ones its row of the tables R61 and R68 admits; a payload has at most 65535
octets (R64). -/
def Instr.wellFormed : Instr → Bool
  | .dEsc => true
  | .dUnesc _ => true
  | .dLit b => b != escMarker
  | .aStart _ => true
  | .aNostart _ v => v != startMarker
  | .aResync => true
  | .aLenhi e v => notFreshStart e v
  | .aLenlo e v => notFreshStart e v
  | .aOversize e v => notFreshStart e v
  | .aData e v => notFreshStart e v
  | .aCsum e v => notFreshStart e v
  | .sDecode payload => payload.length ≤ 65535
  | .lArrival => true
  | .lTick => true
  | .lReset => true
  | .lClassify => true
  | .xReset => true

end Sys2Proof
end

