-- ==== Sys2Proof/Decode.lean ====
section
/-! DEFINITION. Decoding and encoding (30_encoding.md R61, R68, R69). A RAW9 word is `esc_pending ++ b`, an LB word
`escaped ++ v`, nine bits each with the tag as bit 8; the other rows of spec/opcode_table.json have no word and are
selected by an event or by another operation. -/

namespace Sys2Proof

/-! ## The nine-bit words -/

/-- `tag ++ octet`: the tag is bit 8 (R8, R61). -/
def tagged (tag : Bool) (v : Byte) : BitVec 9 := BitVec.ofBool tag ++ v

/-- Bit 8 of a nine-bit word. -/
def tagOf (w : BitVec 9) : Bool := w.getLsbD 8

/-- Bits 7 to 0 of a nine-bit word. -/
def octetOf (w : BitVec 9) : Byte := w.extractLsb' 0 8

/-! ## Decoding -/

/-- The ByteDescrambler's decoder (R61), rows tried top to bottom. -/
def decodeRaw9 (w : BitVec 9) : Instr :=
  if tagOf w then .dUnesc (octetOf w)
  else if octetOf w = escMarker then .dEsc
  else .dLit (octetOf w)

/-- The FrameAssembler's decoder (R68), the guards in the table's order. -/
def decodeLb (ph : Phase) (w : BitVec 9) : Instr :=
  let v := octetOf w
  let e := tagOf w
  match ph with
  | .awaitStart => if v = startMarker then .aStart e else .aNostart e v
  | .readLengthHigh => if notFreshStart e v then .aLenhi e v else .aResync
  | .readLengthLow => if notFreshStart e v then .aLenlo e v else .aResync
  | .overflow => if notFreshStart e v then .aOversize e v else .aResync
  | .payload => if notFreshStart e v then .aData e v else .aResync
  | .checksum => if notFreshStart e v then .aCsum e v else .aResync

/-- The operation a key selects (R61, R68, R69). Total: nothing the transport can deliver is illegal (R77). -/
def decode : Key → Instr
  | .raw9 w => decodeRaw9 w
  | .lb ph w => decodeLb ph w
  | .tick => .lTick
  | .lreset => .lReset
  | .reset => .xReset
  | .frameArrival => .lArrival
  | .framePayload payload => .sDecode payload
  | .linkOutput => .lClassify

/-- Why bytes are no RAW9 word (log entry 9). -/
inductive DecodeError
  /-- Fewer than two bytes. -/
  | tooShort
  /-- Bits 15 to 9, which no row of the table has, are not all zero. -/
  | bitsAboveWord
  /-- More than two bytes. -/
  | trailingBytes
  deriving DecidableEq, Repr

/-- A RAW9 word laid out in bytes, the first byte bits 7 to 0, the second bit 8 (log entry 9). -/
def wordOfBytes : List Byte → Except DecodeError (BitVec 9)
  | [] => .error .tooShort
  | [_] => .error .tooShort
  | [lo, hi] => if hi = 0#8 then .ok (tagged false lo) else if hi = 1#8 then .ok (tagged true lo) else .error .bitsAboveWord
  | _ => .error .trailingBytes

/-- The decoder on bytes: total, refusing by name. -/
def decodeBytes (bytes : List Byte) : Except DecodeError Instr :=
  match wordOfBytes bytes with
  | .ok w => .ok (decodeRaw9 w)
  | .error r => .error r

/-- The instruction read from an opcode-table word `w` of `nbits` bits. The words of the LB rows are the same numbers as
those of the RAW9 rows; what arrives at the block is a raw byte, so the RAW9 reading is the one given (log entry 9). -/
def decodeTableWord (nbits w : Nat) : Option Instr :=
  if nbits = 0 then none
  else if 2 ^ nbits ≤ w then none
  else if 65536 ≤ w then none
  else match decodeBytes [BitVec.ofNat 8 w, BitVec.ofNat 8 (w / 256)] with
    | .ok i => some i
    | .error _ => none

/-! ## Encoding -/

/-- The key of an operation, written from the columns "encoding" of R61 and R68. `A.RESYNC` is selected by the word
`0 ++ 0x7E` at every position above 0; the one at position 1 stands for them. -/
def encode : Instr → Key
  | .dEsc => .raw9 (tagged false escMarker)
  | .dUnesc b => .raw9 (tagged true b)
  | .dLit b => .raw9 (tagged false b)
  | .aStart e => .lb .awaitStart (tagged e startMarker)
  | .aNostart e v => .lb .awaitStart (tagged e v)
  | .aResync => .lb .readLengthHigh (tagged false startMarker)
  | .aLenhi e v => .lb .readLengthHigh (tagged e v)
  | .aLenlo e v => .lb .readLengthLow (tagged e v)
  | .aOversize e v => .lb .overflow (tagged e v)
  | .aData e v => .lb .payload (tagged e v)
  | .aCsum e v => .lb .checksum (tagged e v)
  | .sDecode payload => .framePayload payload
  | .lArrival => .frameArrival
  | .lTick => .tick
  | .lReset => .lreset
  | .lClassify => .linkOutput
  | .xReset => .reset

/-- The bytes of a RAW9 word. -/
def bytesOfWord (w : BitVec 9) : List Byte := [octetOf w, if tagOf w then 1#8 else 0#8]

/-- The bytes of an operation of the ByteDescrambler; the others have no bytes of their own. -/
def encodeBytes (i : Instr) : Option (List Byte) :=
  match encode i with
  | .raw9 w => some (bytesOfWord w)
  | _ => none

/-! ## The opcode table -/

/-- The formats of spec/opcode_table.json. -/
inductive RowFormat
  | raw9
  | lb
  | internal
  | event
  | function
  deriving DecidableEq, Repr

/-- One row of spec/opcode_table.json: a word `w` fits it when `w &&& mask = pattern`. -/
structure OpRow where
  format : RowFormat
  mask : BitVec 9
  pattern : BitVec 9
  deriving DecidableEq, Repr

/-- The row of each operation, `mask` and `pattern` as the table's "mask" and "match" have them. -/
def Instr.row : Instr → OpRow
  | .dEsc => ⟨.raw9, 0x1FF, 0x07D⟩
  | .dUnesc _ => ⟨.raw9, 0x100, 0x100⟩
  | .dLit _ => ⟨.raw9, 0x100, 0x000⟩
  | .aStart _ => ⟨.lb, 0x0FF, 0x07E⟩
  | .aNostart _ _ => ⟨.lb, 0, 0⟩
  | .aResync => ⟨.lb, 0x1FF, 0x07E⟩
  | .aLenhi _ _ => ⟨.lb, 0, 0⟩
  | .aLenlo _ _ => ⟨.lb, 0, 0⟩
  | .aOversize _ _ => ⟨.lb, 0, 0⟩
  | .aData _ _ => ⟨.lb, 0, 0⟩
  | .aCsum _ _ => ⟨.lb, 0, 0⟩
  | .sDecode _ => ⟨.internal, 0, 0⟩
  | .lArrival => ⟨.internal, 0, 0⟩
  | .lTick => ⟨.event, 0, 0⟩
  | .lReset => ⟨.event, 0, 0⟩
  | .lClassify => ⟨.function, 0, 0⟩
  | .xReset => ⟨.event, 0, 0⟩

/-- A key fits a row: the format is the row's and, where the format has a word, its fixed bits are the row's. -/
def Key.fits (k : Key) (r : OpRow) : Bool :=
  match k, r.format with
  | .raw9 w, .raw9 => w &&& r.mask == r.pattern
  | .lb _ w, .lb => w &&& r.mask == r.pattern
  | .tick, .event => true
  | .lreset, .event => true
  | .reset, .event => true
  | .frameArrival, .internal => true
  | .framePayload _, .internal => true
  | .linkOutput, .function => true
  | _, _ => false

end Sys2Proof
end

