-- ==== Sys2Proof/Machine/State.lean ====
section
/-! DEFINITION. The state of one instance of the block (10_state.md), the record a step gives out (44_top_level.md R161),
and the reasons a step can stop. State is plain data. -/

namespace Sys2Proof.Machine

/-- The link classification (R24, R76); code 3 does not exist (R77). -/
inductive LinkState
  | silent
  | working
  | lost
  deriving DecidableEq, Repr

/-- The error codes of a step (R75); codes 6 and 7 do not exist (R77). -/
inductive ErrCode
  /-- `E_NONE`: no error in this step. -/
  | none
  /-- `E_NO_START`, by `A.NOSTART`. -/
  | noStart
  /-- `E_UNEXPECTED_START`, by `A.RESYNC`. -/
  | unexpectedStart
  /-- `E_OVERSIZE`, by `A.OVERSIZE`. -/
  | oversize
  /-- `E_CHECKSUM`, by `A.CSUM`. -/
  | checksum
  /-- `E_TRUNCATED`, by `S.DECODE`. -/
  | truncated
  deriving DecidableEq, Repr

/-- The result record of a step (R161). -/
structure Result where
  /-- A frame with a valid checksum was completed in this step. -/
  frameOk : Bool
  /-- Its payload; `none` where `frameOk` is 0, since the field then has no meaning (log entry 15). -/
  frame : Option (List Byte)
  /-- The sample registers were rewritten in this step. -/
  sampleOk : Bool
  err : ErrCode
  /-- The detail of the error (R187), 0 when there is none. -/
  info : Nat
  deriving DecidableEq, Repr

/-- The all-clear result (R161). -/
def Result.allClear : Result :=
  { frameOk := false, frame := none, sampleOk := false, err := .none, info := 0 }

/-- The sixteen sample registers (R16), 200 bits. The fixed-point registers hold two's complement hundredths. -/
structure Sample where
  batteryVoltage : BitVec 16
  batteryStatus : Byte
  chargeStatus : Byte
  tempPrimary : BitVec 16
  tempSecondary : BitVec 16
  humidity : BitVec 16
  pressure : BitVec 32
  altitudeComputed : BitVec 16
  altitudeCorrected : BitVec 16
  tsHour : Byte
  tsMinute : Byte
  tsSecond : Byte
  tsWeekday : Byte
  tsYearOffset : Byte
  tsMonth : Byte
  tsDay : Byte
  deriving DecidableEq, Repr

/-- The payload buffer: the cells written in the current attempt, payload indices strictly rising. An index that is not
listed has no value (R43, U4; log entry 6). -/
abbrev Memory := List Host.Cell

/-- Why a step stops. Both are raised only in states that break the invariants R27 to R30, so in no run (R170). -/
inductive Fault
  /-- Raised by `MemRead` for a payload index nothing has written in this attempt. Safe: the spec gives the cell no
  value (R43, U4) and the model uses none (log entry 6). -/
  | unwrittenCell (index : Nat)
  /-- Raised by `MemWrite` for an index above `MAX_FRAME - 4`. Safe: no such cell exists (R40). -/
  | outsideBuffer (index : Nat)
  deriving DecidableEq, Repr

/-- Why an operation is given no meaning. -/
inductive Refusal
  /-- Raised by the table of operations for one that has no meaning yet. Safe: nothing is claimed of it. No operation
  is left so in this model. -/
  | notModelled (mnemonic : String)
  /-- Raised by an operation asked for on a state or operand that its `requires` line excludes, so that no decoder
  selects it. Safe: the spec gives it no effect there (log entry 7). -/
  | operationNotSelected (mnemonic : String)
  deriving DecidableEq, Repr

/-- The state of one instance (R10), with the model's own fields after it. -/
structure State where
  /-- The parameters (R4): no state of the block, written by no operation (log entry 2). -/
  cfg : Config
  /-- `esc_pending` (R11). -/
  escPending : Bool
  /-- `pos`, the position counter, this hardware's program counter (R12). -/
  pos : Nat
  /-- `len_hi` (R13). -/
  lenHi : Byte
  /-- `len_lo` (R13). -/
  lenLo : Byte
  /-- `csum` (R14). -/
  csum : Byte
  /-- `buf` (R15, R40). -/
  buf : Memory
  /-- `sample_valid` (R19). -/
  sampleValid : Bool
  /-- `sample` (R16); `none` is the spec's own value of it while there is no sample (R19, R31; log entry 5). -/
  sample : Option Sample
  /-- `seen_recently` (R21). -/
  seenRecently : Bool
  /-- `lost` (R22). -/
  lost : Bool
  /-- `ever_seen` (R23). -/
  everSeen : Bool
  /-- `counter` (R20). -/
  counter : Nat
  /-- The model's own: the events of the run that are still to be delivered (R170; log entry 1). -/
  stimulus : List Event
  /-- The model's own: the result of the latest step, an output of the block (R161; log entry 3). -/
  result : Result
  /-- The model's own: what the continuous output `link_state` shows after the latest step (R168; log entry 4). -/
  linkOut : LinkState
  deriving DecidableEq, Repr

/-- The reset state of R31 for an instance built with parameters `c`. -/
def State.resetOf (c : Config) : State :=
  { cfg := c
    escPending := false
    pos := 0
    lenHi := 0
    lenLo := 0
    csum := 0
    buf := []
    sampleValid := false
    sample := none
    seenRecently := false
    lost := false
    everSeen := false
    counter := 0
    stimulus := []
    result := Result.allClear
    linkOut := .silent }

/-- The state right after `RESET` (R31), in the reference configuration (log entry 2). -/
def State.reset : State := State.resetOf Config.reference

end Sys2Proof.Machine
end

