-- ==== Sys2Proof/Machine/Operands.lean ====
section
/-! DEFINITION. The values the operations compute from: the declared length, the selecting position, the keys of events
and logical bytes, the descrambler's output, and the assembly of every multi-octet value (30_encoding.md R61 to R73). -/

namespace Sys2Proof.Machine

/-! ## Declared length, position, keys -/

/-- `dlen = len_hi * 256 + len_lo` (R13, R44, R64), over the integers. -/
def State.dlen (s : State) : Nat := s.lenHi.toNat * 256 + s.lenLo.toNat

/-- The phase of an assembler at position `pos` with declared length `dlen` (the guards of R68 in order). -/
def phaseOf (maxFrame pos dlen : Nat) : Phase :=
  if pos = 0 then .awaitStart
  else if pos = 1 then .readLengthHigh
  else if pos = 2 then .readLengthLow
  else if maxFrame ≤ pos then .overflow
  else if pos < dlen + hdrLen then .payload
  else .checksum

/-- The phase a state is in. -/
def State.phase (s : State) : Phase := phaseOf s.cfg.maxFrame s.pos s.dlen

/-- The key of a logical byte arriving in a state (R68). -/
def State.lbKey (s : State) (lb : LogicalByte) : Key := .lb s.phase (tagged lb.escaped lb.v)

/-- The key of an input event arriving in a state (R61, R69). -/
def State.eventKey (s : State) : Event → Key
  | .raw b => .raw9 (tagged s.escPending b)
  | .tick => .tick
  | .lreset => .lreset
  | .reset => .reset

/-- The operation an input event selects in a state. -/
def State.selected (s : State) (e : Event) : Instr := decode (s.eventKey e)

/-! ## The logical stream -/

/-- The octet an escape sequence stands for: `b xor 0x20` (R92). -/
def unescape (b : Byte) : Byte := b ^^^ escMask

/-- What the ByteDescrambler makes of one raw byte (R61, R90): the new `esc_pending` and at most one logical byte. -/
def descramble (escPending : Bool) (b : Byte) : Bool × Option LogicalByte :=
  if escPending then (false, some ⟨unescape b, true⟩)
  else if b = escMarker then (true, none)
  else (false, some ⟨b, false⟩)

/-- The logical bytes of a raw stream, from a given `esc_pending` (R96). -/
def logicalStream : Bool → List Byte → List LogicalByte
  | _, [] => []
  | esc, b :: bs =>
    match descramble esc b with
    | (esc', some lb) => lb :: logicalStream esc' bs
    | (esc', none) => logicalStream esc' bs

/-- The logical byte an operation of the ByteDescrambler delivers to the FrameAssembler (R91 to R93); no other operation
delivers one. -/
def deliveredBy : Instr → Option LogicalByte
  | .dEsc => none
  | .dUnesc b => some ⟨unescape b, true⟩
  | .dLit b => some ⟨b, false⟩
  | .aStart _ => none
  | .aNostart _ _ => none
  | .aResync => none
  | .aLenhi _ _ => none
  | .aLenlo _ _ => none
  | .aOversize _ _ => none
  | .aData _ _ => none
  | .aCsum _ _ => none
  | .sDecode _ => none
  | .lArrival => none
  | .lTick => none
  | .lReset => none
  | .lClassify => none
  | .xReset => none

/-! ## Multi-octet values -/

/-- `P[i]`. The payload is read only at indices below its length, which S.DECODE has compared with `MIN_PAYLOAD_LEN`
(R126); the octet given beyond the end is not used (log entry 19). -/
def octetAt (payload : List Byte) (i : Nat) : Byte := payload.getD i 0

/-- `P[i+1] ++ P[i]` (R45, R71). -/
def le16 (payload : List Byte) (i : Nat) : BitVec 16 := octetAt payload (i + 1) ++ octetAt payload i

/-- `P[i+3] ++ P[i+2] ++ P[i+1] ++ P[i]` (R46, R72). -/
def le32 (payload : List Byte) (i : Nat) : BitVec 32 := le16 payload (i + 2) ++ le16 payload i

/-- The sixteen fields at their offsets from the field base (R70, R121). -/
def Sample.ofPayload (base : Nat) (payload : List Byte) : Sample :=
  { batteryVoltage := le16 payload base
    batteryStatus := octetAt payload (base + 2)
    chargeStatus := octetAt payload (base + 3)
    tempPrimary := le16 payload (base + 4)
    tempSecondary := le16 payload (base + 6)
    humidity := le16 payload (base + 8)
    pressure := le32 payload (base + 10)
    altitudeComputed := le16 payload (base + 14)
    altitudeCorrected := le16 payload (base + 16)
    tsHour := octetAt payload (base + 18)
    tsMinute := octetAt payload (base + 19)
    tsSecond := octetAt payload (base + 20)
    tsWeekday := octetAt payload (base + 21)
    tsYearOffset := octetAt payload (base + 22)
    tsMonth := octetAt payload (base + 23)
    tsDay := octetAt payload (base + 24) }

/-! ## What a register's bits stand for -/

/-- The integer a two-octet fixed-point register holds, in hundredths: `sext_16` (R71, R122). PRESUMED two's
complement (K3; log entry 12). -/
def hundredths (r : BitVec 16) : Int := r.toInt

/-- The rational a fixed-point register stands for, exactly (R71, R122). -/
def fixedPointValue (r : BitVec 16) : Rat := (hundredths r : Rat) / (fpScale : Rat)

/-- The integer `pressure` holds: `sext_32` (R72, R123). PRESUMED two's complement (K3; log entry 12). -/
def pressureValue (r : BitVec 32) : Int := r.toInt

end Sys2Proof.Machine
end

