-- ==== Sys2Proof/Machine/Flags.lean ====
section
/-! DEFINITION. The checksum and the LinkWatcher's flags (41_frame_assembler.md R106, R107; 43_link_watcher.md R143,
R144), and the numeric codes of the results (30_encoding.md R75, R76). -/

namespace Sys2Proof.Machine

/-- `csum' = (csum + v) mod 256` (R106, R107). -/
def csumAfter (csum v : Byte) : Byte := csum + v

/-- The sum of a list of octets modulo 256 (R65). -/
def octetSum : List Byte → Byte
  | [] => 0
  | b :: bs => b + octetSum bs

/-- The counter's ceiling `LOST_THRESHOLD + 1` (R20, R145). -/
def counterCeiling (c : Config) : Nat := c.lostThreshold + 1

/-- `counter'` of a tick (R143). -/
def counterAfterTick (s : State) : Nat :=
  if s.seenRecently then s.counter else min (s.counter + 1) (counterCeiling s.cfg)

/-- `lost` after a tick: set when `counter' > LOST_THRESHOLD`, never cleared (R143). -/
def lostAfterTick (s : State) : Bool :=
  if s.cfg.lostThreshold < counterAfterTick s then true else s.lost

/-- `classify()` on the four registers, the clauses in order (R144). -/
def classifyLink (graceTicks : Nat) (seenRecently lost everSeen : Bool) (counter : Nat) : LinkState :=
  if seenRecently then .working
  else if lost then .lost
  else if everSeen ∧ counter < graceTicks then .working
  else .silent

/-- `classify()` of a state (R144). -/
def State.classify (s : State) : LinkState :=
  classifyLink s.cfg.graceTicks s.seenRecently s.lost s.everSeen s.counter

/-- The 3-bit code of an error (R75). -/
def ErrCode.code : ErrCode → BitVec 3
  | .none => 0
  | .noStart => 1
  | .unexpectedStart => 2
  | .oversize => 3
  | .checksum => 4
  | .truncated => 5

/-- The 2-bit code of a link state (R76). -/
def LinkState.code : LinkState → BitVec 2
  | .silent => 0
  | .working => 1
  | .lost => 2

end Sys2Proof.Machine
end

