-- ==== Sys2Proof/Machine/Memory.lean ====
section
/-! DEFINITION. The payload buffer as data (20_memory.md R40 to R43): reading, writing and the canonical form. -/

namespace Sys2Proof.Machine

/-- The octet at payload index `a`, if it has been written: what one cell reads as. An unlisted index has no value
(log entry 6). -/
def Memory.lookup : Memory → Nat → Option Byte
  | [], _ => none
  | (b, w) :: m, a => if a = b then some w else Memory.lookup m a

/-- Store one octet, keeping the indices strictly rising. -/
def Memory.write : Memory → Nat → Byte → Memory
  | [], a, v => [(a, v)]
  | (b, w) :: m, a, v =>
    if a < b then (a, v) :: (b, w) :: m
    else if a = b then (a, v) :: m
    else (b, w) :: Memory.write m a v

/-- Every index of `m` is above `a`. -/
def Memory.above (a : Nat) : Memory → Bool
  | [] => true
  | (b, _) :: m => decide (a < b) && Memory.above a m

/-- The canonical form: indices strictly rising. No entry can equal what an unlisted index reads as, which is no
value. -/
def Memory.wf : Memory → Bool
  | [] => true
  | (a, _) :: m => Memory.above a m && Memory.wf m

/-- The octets at payload indices `a .. a+n-1` in that order (R9 `MemRead`), or the first index without a value. -/
def Memory.readRange (m : Memory) (a : Nat) : Nat → Except Nat (List Byte)
  | 0 => .ok []
  | n + 1 =>
    match m.lookup a with
    | none => .error a
    | some v =>
      match Memory.readRange m (a + 1) n with
      | .ok vs => .ok (v :: vs)
      | .error i => .error i

end Sys2Proof.Machine
end

