-- ==== Sys2Proof/Machine/Ops.lean ====
section
/-! DEFINITION. The operations over memory and registers that the meanings share: sequencing, the `requires` guard, the
accesses to `buf`, `clear`, raising an error (60_exceptions.md R190, this hardware's taking of an exception; there is no
return from one, R191), the emits into the result, and the register updates of the LinkWatcher, the SampleDecoder and
the reset. -/

namespace Sys2Proof.Machine

/-- What a meaning answers. -/
abbrev Answer := Host.Outcome State Fault Refusal

/-! ## Sequencing and guards -/

/-- Run `f` on the next state, if there is one. -/
def andThen (o : Answer) (f : State → Answer) : Answer :=
  match o with
  | .next s => f s
  | .fault r => .fault r
  | .refused r => .refused r

/-- An operation under its `requires` line: refused where no decoder selects it (log entry 7). -/
def requires (selected : Bool) (mnemonic : String) (o : Answer) : Answer :=
  if selected then o else .refused (.operationNotSelected mnemonic)

/-! ## Accesses to the payload buffer -/

/-- `MemWrite(a, 1, v)` (R9, R41), inside the buffer's indices 0 to `MAX_FRAME - 4` (R40). -/
def memWrite (a : Nat) (v : Byte) (s : State) : Answer :=
  if a + 4 ≤ s.cfg.maxFrame then .next { s with buf := s.buf.write a v } else .fault (.outsideBuffer a)

/-- `MemRead(a, n)` (R9, R42). -/
def memRead (a n : Nat) (s : State) : Except Fault (List Byte) :=
  match s.buf.readRange a n with
  | .ok vs => .ok vs
  | .error i => .error (.unwrittenCell i)

/-! ## Register updates -/

/-- `esc_pending <- e`. -/
def State.setEsc (s : State) (e : Bool) : State := { s with escPending := e }

/-- `pos <- p`. -/
def State.setPos (s : State) (p : Nat) : State := { s with pos := p }

/-- `len_hi <- v`. -/
def State.setLenHi (s : State) (v : Byte) : State := { s with lenHi := v }

/-- `len_lo <- v`. -/
def State.setLenLo (s : State) (v : Byte) : State := { s with lenLo := v }

/-- `csum <- v`. -/
def State.setCsum (s : State) (v : Byte) : State := { s with csum := v }

/-- `clear`, shared by every terminal outcome (R109, R43). -/
def State.clear (s : State) : State := { s with pos := 0, lenHi := 0, lenLo := 0, csum := 0, buf := [] }

/-- All sixteen sample registers and `sample_valid` at once (R17, R129). -/
def State.storeSample (s : State) (x : Sample) : State := { s with sample := some x, sampleValid := true }

/-- `sample_valid <- 0; sample <- unspecified`, no value (R210, R31). -/
def State.dropSample (s : State) : State := { s with sample := none, sampleValid := false }

/-! ## The result of the step -/

/-- `emit frame_ok = 1, frame = P` (R107). -/
def State.emitFrame (s : State) (payload : List Byte) : State :=
  { s with result := { s.result with frameOk := true, frame := some payload } }

/-- `emit sample_ok = 1` (R129). -/
def State.emitSampleOk (s : State) : State := { s with result := { s.result with sampleOk := true } }

/-- `err` and `info` of the result (R161, R187). -/
def State.emitErr (s : State) (e : ErrCode) (info : Nat) : State :=
  { s with result := { s.result with err := e, info := info } }

/-- `link_state` on its output (R24, R168). -/
def State.driveLink (s : State) (l : LinkState) : State := { s with linkOut := l }

/-! ## Raising an error -/

/-- The entry actions of an error (R190): what it changes in the FrameAssembler. The `clear` of `E_TRUNCATED` is done
by `A.CSUM`. -/
def trapEntry (e : ErrCode) (s : State) : State :=
  match e with
  | .none => s
  | .noStart => s
  | .unexpectedStart => s.clear.setPos 1
  | .oversize => s.clear
  | .checksum => s.clear
  | .truncated => s

/-- `raise E(info)` (R9): the entry actions, and the error in the step's result. -/
def raise (e : ErrCode) (info : Nat) (s : State) : State := (trapEntry e s).emitErr e info

/-! ## The LinkWatcher (43_link_watcher.md) -/

/-- `reset()` (R141). -/
def linkReset (s : State) : State := { s with seenRecently := false, lost := false, everSeen := false, counter := 0 }

/-- `on_frame_arrival()` (R142). -/
def linkArrival (s : State) : State := { s with seenRecently := true, lost := false, counter := 0, everSeen := true }

/-- `on_tick()` (R143): `seen_recently` is 0 after either branch. -/
def linkTick (s : State) : State :=
  { s with seenRecently := false, counter := counterAfterTick s, lost := lostAfterTick s }

/-! ## The SampleDecoder (42_sample_decoder.md) -/

/-- `S.DECODE(P)` (R129): the length test is made before any field is read (R126). -/
def decodeSample (payload : List Byte) (s : State) : State :=
  if payload.length < s.cfg.minPayloadLen then raise .truncated payload.length s
  else (s.storeSample (Sample.ofPayload s.cfg.fieldBase payload)).emitSampleOk

/-! ## The whole block (70_reset_and_hazards.md) -/

/-- `X.RESET` (R210). -/
def resetBlock (s : State) : State := linkReset (s.setEsc false).clear.dropSample

end Sys2Proof.Machine
end

