-- ==== Sys2Proof/Machine/Assembler.lean ====
section
/-! DEFINITION. The FrameAssembler's operations and its dispatch function (41_frame_assembler.md). -/

namespace Sys2Proof.Machine

/-- `A.START` (R101, R110): the tag is not examined. -/
def execAStart (_escaped : Bool) (s : State) : Answer :=
  requires (s.pos == 0) "A.START" (.next (s.setPos 1))

/-- `A.NOSTART` (R102): no register changes. -/
def execANostart (_escaped : Bool) (v : Byte) (s : State) : Answer :=
  requires (s.pos == 0 && v != startMarker) "A.NOSTART" (.next (raise .noStart v.toNat s))

/-- `A.RESYNC` (R103): `clear; pos <- 1` is the entry of its error (R190). -/
def execAResync (s : State) : Answer :=
  requires (decide (1 ≤ s.pos)) "A.RESYNC" (.next (raise .unexpectedStart s.pos s))

/-- `A.LENHI` (R104). -/
def execALenhi (escaped : Bool) (v : Byte) (s : State) : Answer :=
  requires (s.pos == 1 && notFreshStart escaped v) "A.LENHI" (.next ((s.setLenHi v).setPos 2))

/-- `A.LENLO` (R105). -/
def execALenlo (escaped : Bool) (v : Byte) (s : State) : Answer :=
  requires (s.pos == 2 && notFreshStart escaped v) "A.LENLO" (.next ((s.setLenLo v).setPos 3))

/-- `A.OVERSIZE` (R108): `clear` is the entry of its error (R190). -/
def execAOversize (escaped : Bool) (v : Byte) (s : State) : Answer :=
  requires (decide (hdrLen ≤ s.pos) && decide (s.cfg.maxFrame ≤ s.pos) && notFreshStart escaped v) "A.OVERSIZE"
    (.next (raise .oversize s.dlen s))

/-- `A.DATA` (R106). -/
def execAData (escaped : Bool) (v : Byte) (s : State) : Answer :=
  requires (decide (hdrLen ≤ s.pos) && decide (s.pos < s.cfg.maxFrame) && decide (s.pos < s.dlen + hdrLen)
      && notFreshStart escaped v) "A.DATA"
    (andThen (memWrite (s.pos - hdrLen) v s) fun t =>
      .next ((t.setCsum (csumAfter s.csum v)).setPos (s.pos + 1)))

/-- `A.CSUM` (R107, R147): a valid sum emits the frame, performs `L.ARRIVAL` and `S.DECODE`; in both cases `clear`. -/
def execACsum (escaped : Bool) (v : Byte) (s : State) : Answer :=
  requires (decide (hdrLen ≤ s.pos) && decide (s.pos < s.cfg.maxFrame) && s.pos == s.dlen + hdrLen
      && notFreshStart escaped v) "A.CSUM"
    (if csumAfter s.csum v = csumOk then
      match memRead 0 s.dlen s with
      | .ok payload => .next (decodeSample payload (linkArrival (s.emitFrame payload))).clear
      | .error r => .fault r
    else .next (raise .checksum (csumAfter s.csum v).toNat s).clear)

/-- `asm_step(v, escaped)`: the FrameAssembler on one logical byte (R100, the guards in its order). -/
def asmStep (lb : LogicalByte) (s : State) : Answer :=
  if s.pos = 0 ∧ lb.v = startMarker then execAStart lb.escaped s
  else if s.pos = 0 then execANostart lb.escaped lb.v s
  else if lb.v = startMarker ∧ lb.escaped = false then execAResync s
  else if s.pos = 1 then execALenhi lb.escaped lb.v s
  else if s.pos = 2 then execALenlo lb.escaped lb.v s
  else if s.cfg.maxFrame ≤ s.pos then execAOversize lb.escaped lb.v s
  else if s.pos < s.dlen + hdrLen then execAData lb.escaped lb.v s
  else execACsum lb.escaped lb.v s

end Sys2Proof.Machine
end

