-- ==== Sys2Proof/Machine/Descrambler.lean ====
section
/-! DEFINITION. The ByteDescrambler's operations (40_descrambler.md). Delivering a logical byte performs the
FrameAssembler's operation in the same step (44_top_level.md R160). -/

namespace Sys2Proof.Machine

/-- `D.ESC` (R91). -/
def execDEsc (s : State) : Answer :=
  requires (!s.escPending) "D.ESC" (.next (s.setEsc true))

/-- `D.UNESC` (R92). -/
def execDUnesc (b : Byte) (s : State) : Answer :=
  requires s.escPending "D.UNESC" (asmStep ⟨unescape b, true⟩ (s.setEsc false))

/-- `D.LIT` (R93). -/
def execDLit (b : Byte) (s : State) : Answer :=
  requires (!s.escPending && b != escMarker) "D.LIT" (asmStep ⟨b, false⟩ s)

end Sys2Proof.Machine
end

