-- ==== Sys2Proof/Machine/LinkWatcher.lean ====
section
/-! DEFINITION. The LinkWatcher's operations (43_link_watcher.md). -/

namespace Sys2Proof.Machine

/-- `L.ARRIVAL` (R142). -/
def execLArrival (s : State) : Answer := .next (linkArrival s)

/-- `L.TICK` (R143). -/
def execLTick (s : State) : Answer := .next (linkTick s)

/-- `L.RESET` (R141). -/
def execLReset (s : State) : Answer := .next (linkReset s)

/-- `L.CLASSIFY` (R144): writes no register; its value goes to the output `link_state`. -/
def execLClassify (s : State) : Answer := .next (s.driveLink s.classify)

end Sys2Proof.Machine
end

