-- ==== Sys2Proof/Machine/Orchestrator.lean ====
section
/-! DEFINITION. The reset of the whole block (70_reset_and_hazards.md R210). -/

namespace Sys2Proof.Machine

/-- `X.RESET` (R210, R164). -/
def execXReset (s : State) : Answer := .next (resetBlock s)

end Sys2Proof.Machine
end

