-- ==== Sys2Proof/Machine/SampleDecoder.lean ====
section
/-! DEFINITION. The SampleDecoder's operation (42_sample_decoder.md). -/

namespace Sys2Proof.Machine

/-- `S.DECODE` (R129, R126, R127, R128). -/
def execSDecode (payload : List Byte) (s : State) : Answer := .next (decodeSample payload s)

end Sys2Proof.Machine
end

