-- ==== Sys2Proof/Machine/Dispatch.lean ====
section
/-! DEFINITION. One arm per operation of spec/opcode_table.json, each one direct call of its meaning. -/

namespace Sys2Proof.Machine

def exec (i : Instr) (s : State) : Host.Outcome State Fault Refusal :=
  match i with
  | .dEsc => Sys2Proof.Machine.execDEsc s
  | .dUnesc b => Sys2Proof.Machine.execDUnesc b s
  | .dLit b => Sys2Proof.Machine.execDLit b s
  | .aStart e => Sys2Proof.Machine.execAStart e s
  | .aNostart e v => Sys2Proof.Machine.execANostart e v s
  | .aResync => Sys2Proof.Machine.execAResync s
  | .aLenhi e v => Sys2Proof.Machine.execALenhi e v s
  | .aLenlo e v => Sys2Proof.Machine.execALenlo e v s
  | .aOversize e v => Sys2Proof.Machine.execAOversize e v s
  | .aData e v => Sys2Proof.Machine.execAData e v s
  | .aCsum e v => Sys2Proof.Machine.execACsum e v s
  | .sDecode payload => Sys2Proof.Machine.execSDecode payload s
  | .lArrival => Sys2Proof.Machine.execLArrival s
  | .lTick => Sys2Proof.Machine.execLTick s
  | .lReset => Sys2Proof.Machine.execLReset s
  | .lClassify => Sys2Proof.Machine.execLClassify s
  | .xReset => Sys2Proof.Machine.execXReset s

end Sys2Proof.Machine
end

