-- ==== Sys2Proof/Machine/Events.lean ====
section
/-! DEFINITION. The four events as whole steps (44_top_level.md R160, R162 to R164), the next event of a run, batches
(R167), runs (R170), and what a host observes (R168, R170). -/

namespace Sys2Proof.Machine

/-- The state an event's operation starts in: the result is all-clear (R160). -/
def State.begin (s : State) : State := { s with result := Result.allClear }

/-- The step function of R5 on one event: the selected operation, then the continuous output `link_state` shows
`classify()` of the state it leaves (R168). -/
def perform (e : Event) (s : State) : Answer := andThen (exec (s.selected e) s.begin) (exec .lClassify)

/-- The events of a run, one after another (R50, R170). -/
def performAll : List Event → State → Answer
  | [], s => .next s
  | e :: es, s => andThen (perform e s) (performAll es)

/-- The operations the events of a run select, each in the state it arrives in. The list ends early only where a step
stops. -/
def selections : List Event → State → List Instr
  | [], _ => []
  | e :: es, s =>
    s.selected e ::
      match perform e s with
      | .next t => selections es t
      | .fault _ => []
      | .refused _ => []

/-- The next event of the run, if any, and the state that no longer holds it. -/
def State.takeEvent (s : State) : Option (Event × State) :=
  match s.stimulus with
  | [] => none
  | e :: rest => some (e, { s with stimulus := rest })

/-- A batch of octets is one `RAW` event per octet, in order (R167). -/
def batch (octets : List Byte) : List Event := octets.map .raw

/-- A state with the events of a run to be delivered (log entry 1). -/
def State.withStimulus (s : State) (es : List Event) : State := { s with stimulus := es }

/-- The raw byte and `esc_pending` that an opcode-table word stands for, placed where the next step takes its event
(log entry 9). A number that is no RAW9 word changes nothing. -/
def placeWord (s : State) (nbits w : Nat) : State :=
  if decodeTableWord nbits w = none then s
  else { s with escPending := Nat.testBit w 8, stimulus := .raw (BitVec.ofNat 8 w) :: s.stimulus }

/-- The continuous outputs (R168). -/
structure Outputs where
  linkState : LinkState
  sampleValid : Bool
  sample : Option Sample
  deriving DecidableEq, Repr

/-- The continuous outputs of a state (R24, R168). -/
def State.outputs (s : State) : Outputs :=
  { linkState := s.linkOut, sampleValid := s.sampleValid, sample := s.sample }

/-- The trace of a run: after each step its result and the continuous outputs (R170). It ends early only where a step
stops. -/
def trace : List Event → State → List (Result × Outputs)
  | [], _ => []
  | e :: es, s =>
    match perform e s with
    | .next t => (t.result, t.outputs) :: trace es t
    | .fault _ => []
    | .refused _ => []

end Sys2Proof.Machine
end

