-- ==== Sys2Proof/Machine/Clocked.lean ====
section
/-! DEFINITION. The clocked binding of 92_eei_decisions.md D1 and D2 as a translation into events: the input lines of one
clock cycle stand for the events of that cycle in the order `TICK`, `RAW`, `LRESET`, and `rst` overrides all
(43_link_watcher.md R150, 60_exceptions.md R188). It adds no behaviour. -/

namespace Sys2Proof.Machine

/-- The input lines in one clock cycle (D1). -/
structure CycleInput where
  rst : Bool
  rxValid : Bool
  rxData : Byte
  tick : Bool
  linkReset : Bool
  deriving DecidableEq, Repr

/-- The events of one cycle in their order (D2, R150). -/
def CycleInput.events (c : CycleInput) : List Event :=
  if c.rst then [.reset]
  else (if c.tick then [.tick] else []) ++ (if c.rxValid then [.raw c.rxData] else [])
    ++ (if c.linkReset then [.lreset] else [])

/-- The result outputs of a cycle whose last event is `LRESET`: the raw byte's, where the cycle has one, since `LRESET`
itself reports nothing. DESIGN CHOICE (log entry 18). -/
def CycleInput.keepRawResult (c : CycleInput) (rawResult : Result) (t : State) : State :=
  if !c.rst && c.rxValid && c.linkReset then { t with result := rawResult } else t

/-- One clock cycle; a cycle with no input asserted changes nothing (D1). -/
def clockCycle (c : CycleInput) (s : State) : Answer :=
  andThen (performAll { c with linkReset := false }.events s) fun t =>
    andThen (performAll (if !c.rst && c.linkReset then [.lreset] else []) t) fun u =>
      .next (c.keepRawResult t.result u)

end Sys2Proof.Machine
end

