-- ==== Sys2Proof/Machine/Sender.lean ====
section
/-! DEFINITION. The sender's rules (30_encoding.md R66, R67), the sample layout read backwards (R70 to R73, R131) and the
stimulus notation (R78, R79). None of it is part of the block (00_scope.md R3; log entry 17). -/

namespace Sys2Proof.Machine

/-- The raw spelling of a logical byte after the start marker (R66). -/
def stuffByte (v : Byte) : List Byte :=
  if v = startMarker ∨ v = escMarker then [escMarker, v ^^^ escMask] else [v]

/-- The raw spelling of a list of logical bytes (R66). -/
def stuff (vs : List Byte) : List Byte := vs.flatMap stuffByte

/-- `Checksum = 0xFF − (sum of payload bytes mod 256)` (R67). -/
def checksumOf (payload : List Byte) : Byte := 0xFF - octetSum payload

/-- The logical bytes of a frame after its start marker, with the checksum octet `c` (R63). -/
def frameBody (payload : List Byte) (c : Byte) : List Byte :=
  BitVec.ofNat 8 (payload.length / 256) :: BitVec.ofNat 8 payload.length :: (payload ++ [c])

/-- The raw bytes of a frame with the checksum octet `c`: the start marker unescaped, the rest stuffed (R66). -/
def frameOctets (payload : List Byte) (c : Byte) : List Byte := startMarker :: stuff (frameBody payload c)

/-- A line of a stimulus script (R78) or a pseudo-line (R79). -/
inductive ScriptLine
  | reset
  | lreset
  | tick
  | raw (octets : List Byte)
  | ticks (n : Nat)
  | frame (payload : List Byte)
  | badFrame (c : Byte) (payload : List Byte)
  deriving DecidableEq, Repr

/-- The events a line stands for (R78, R79). -/
def ScriptLine.events : ScriptLine → List Event
  | .reset => [.reset]
  | .lreset => [.lreset]
  | .tick => [.tick]
  | .raw octets => batch octets
  | .ticks n => List.replicate n .tick
  | .frame payload => batch (frameOctets payload (checksumOf payload))
  | .badFrame c payload => batch (frameOctets payload c)

/-- The events of a script, top to bottom (R78). -/
def scriptEvents (lines : List ScriptLine) : List Event := lines.flatMap ScriptLine.events

/-- The two octets of a fixed-point register, low octet first (R71 backwards). -/
def octetsOf16 (r : BitVec 16) : List Byte := [r.extractLsb' 0 8, r.extractLsb' 8 8]

/-- The four octets of `pressure`, least significant first (R72 backwards). -/
def octetsOf32 (r : BitVec 32) : List Byte := octetsOf16 (r.extractLsb' 0 16) ++ octetsOf16 (r.extractLsb' 16 16)

/-- The 25 field octets of a sample in the order of R121. -/
def Sample.octets (x : Sample) : List Byte :=
  octetsOf16 x.batteryVoltage ++ [x.batteryStatus, x.chargeStatus] ++ octetsOf16 x.tempPrimary
    ++ octetsOf16 x.tempSecondary ++ octetsOf16 x.humidity ++ octetsOf32 x.pressure
    ++ octetsOf16 x.altitudeComputed ++ octetsOf16 x.altitudeCorrected
    ++ [x.tsHour, x.tsMinute, x.tsSecond, x.tsWeekday, x.tsYearOffset, x.tsMonth, x.tsDay]

end Sys2Proof.Machine
end

