-- ==== Sys2Proof/Safety.lean ====
section
/-! DEFINITION. What holds of the block in every reachable state (10_state.md R27 to R30 and the rules they rest on), what
the results of a step can be (44_top_level.md R166), and the LinkWatcher with the source's unbounded counter
(43_link_watcher.md R145), in the terms the statements use. -/

namespace Sys2Proof.Machine

/-- The parameters meet R4's constraints. -/
abbrev ConfigInv (s : State) : Prop := s.cfg.Valid

/-- R12 and R28: the range of `pos`; R27: the registers that are still 0 early in an attempt. -/
abbrev PositionInv (s : State) : Prop :=
  s.pos ≤ s.cfg.maxFrame ∧
  (3 ≤ s.pos → s.pos ≤ s.dlen + 3) ∧
  (s.pos = 0 → s.lenHi = 0 ∧ s.lenLo = 0 ∧ s.csum = 0) ∧
  (s.pos ≤ 3 → s.csum = 0)

/-- R15, R41: the cells written are those at payload indices 0 to `pos - 4`, in order; R14: `csum` is the sum of their
octets modulo 256. -/
abbrev BufferInv (s : State) : Prop :=
  s.buf.map Prod.fst = List.range (s.pos - 3) ∧ s.csum = octetSum (s.buf.map Prod.snd)

/-- What the frame path needs of a state for its operations to run (R27, R28, R15). -/
abbrev FrameInv (s : State) : Prop := ConfigInv s ∧ PositionInv s ∧ BufferInv s

/-- R19: there is a sample exactly when `sample_valid` is 1. -/
abbrev SampleInv (s : State) : Prop := s.sampleValid = s.sample.isSome

/-- R29 and the range of the counter (R20). -/
abbrev LinkInv (s : State) : Prop :=
  (s.seenRecently = true → s.counter = 0 ∧ s.lost = false ∧ s.everSeen = true) ∧
  (s.lost = true → s.counter = s.cfg.lostThreshold + 1) ∧
  (s.everSeen = false → s.seenRecently = false) ∧
  s.counter ≤ s.cfg.lostThreshold + 1

/-- R166: the seven results a step can have with parameters `c`, and what the frame and info fields hold with them
(R161, R187). That the `info` of `E_UNEXPECTED_START` is at most `MAX_FRAME` rests on R28 and is no part of it. -/
abbrev Result.Legal (c : Config) (r : Result) : Prop :=
  r = Result.allClear ∨
  (∃ payload, c.minPayloadLen ≤ payload.length ∧ r = ⟨true, some payload, true, .none, 0⟩) ∨
  (∃ payload, payload.length < c.minPayloadLen ∧ r = ⟨true, some payload, false, .truncated, payload.length⟩) ∨
  (∃ v, v ≤ 255 ∧ v ≠ 0x7E ∧ r = ⟨false, none, false, .noStart, v⟩) ∨
  (∃ p, 1 ≤ p ∧ r = ⟨false, none, false, .unexpectedStart, p⟩) ∨
  (∃ d, d ≤ 65535 ∧ r = ⟨false, none, false, .oversize, d⟩) ∨
  (∃ v, v ≤ 254 ∧ r = ⟨false, none, false, .checksum, v⟩)

/-- R30: a step that reports anything leaves `esc_pending` 0; R24, R168: `link_state` shows `classify()`. -/
abbrev OutputInv (s : State) : Prop :=
  (s.result ≠ Result.allClear → s.escPending = false) ∧ s.linkOut = s.classify

/-- The invariant of the reachable states. -/
def BlockInv (s : State) : Prop :=
  ConfigInv s ∧ PositionInv s ∧ BufferInv s ∧ SampleInv s ∧ LinkInv s ∧ OutputInv s

/-- The frame path: everything but the LinkWatcher's registers and the model's own fields (R53, R211). -/
structure FramePath where
  escPending : Bool
  pos : Nat
  lenHi : Byte
  lenLo : Byte
  csum : Byte
  buf : Memory
  sampleValid : Bool
  sample : Option Sample
  deriving DecidableEq, Repr

/-- The frame path of a state. -/
def State.framePath (s : State) : FramePath :=
  { escPending := s.escPending, pos := s.pos, lenHi := s.lenHi, lenLo := s.lenLo, csum := s.csum, buf := s.buf,
    sampleValid := s.sampleValid, sample := s.sample }

/-- The LinkWatcher's four registers (R140). -/
structure LinkRegisters where
  seenRecently : Bool
  lost : Bool
  everSeen : Bool
  counter : Nat
  deriving DecidableEq, Repr

/-- The LinkWatcher's registers in a state. -/
def State.link (s : State) : LinkRegisters :=
  { seenRecently := s.seenRecently, lost := s.lost, everSeen := s.everSeen, counter := s.counter }

/-- The three updates of the LinkWatcher (R140). -/
inductive LinkUpdate
  | reset
  | arrival
  | tick
  deriving DecidableEq, Repr

/-- An update performed on the block's own LinkWatcher. -/
def LinkUpdate.apply : LinkUpdate → State → State
  | .reset, s => linkReset s
  | .arrival, s => linkArrival s
  | .tick, s => linkTick s

/-- The same updates as the source has them, on a counter without a bound (R145): `counter' = counter + 1` in place of
the saturating sum of R143. -/
def LinkUpdate.applyUnbounded (lostThreshold : Nat) : LinkUpdate → LinkRegisters → LinkRegisters
  | .reset, _ => ⟨false, false, false, 0⟩
  | .arrival, _ => ⟨true, false, true, 0⟩
  | .tick, l =>
    let counter' := if l.seenRecently then l.counter else l.counter + 1
    ⟨false, decide (lostThreshold < counter') || l.lost, l.everSeen, counter'⟩

/-- The update of the LinkWatcher an event makes, given the result it reports: a raw byte's is the arrival of the frame it
completes (R142 to R147, R164). -/
def linkUpdateOf : Event → Result → Option LinkUpdate
  | .raw _, r => if r.frameOk then some .arrival else none
  | .tick, _ => some .tick
  | .lreset, _ => some .reset
  | .reset, _ => some .reset

/-- The unbounded LinkWatcher after an event's update, if the event makes one. -/
def LinkRegisters.afterUpdate (lostThreshold : Nat) (l : LinkRegisters) : Option LinkUpdate → LinkRegisters
  | some u => u.applyUnbounded lostThreshold l
  | none => l

/-- The block's saturating LinkWatcher stands for the unbounded one `l` (R145). -/
abbrev StandsFor (s : State) (l : LinkRegisters) : Prop :=
  s.seenRecently = l.seenRecently ∧ s.lost = l.lost ∧ s.everSeen = l.everSeen ∧
  s.counter = min l.counter (s.cfg.lostThreshold + 1) ∧ (l.lost = false → l.counter ≤ s.cfg.lostThreshold)

/-- Two states that differ in the LinkWatcher and its output alone (R195). -/
abbrev AgreeButLink (s t : State) : Prop :=
  s.framePath = t.framePath ∧ s.cfg = t.cfg ∧ s.stimulus = t.stimulus ∧ s.result = t.result

end Sys2Proof.Machine
end

