-- ==== Sys2Proof/Certificates/Slice0/Obligations.lean ====
section
/-! DEFINITION. The statements for the provers. "Log entry <n>" is notes/assumptions/<n>.md. Where a statement speaks of
`stimulus`, `result`, `linkOut` or `cfg` as fields of the state, that they are fields is the model's choice (log entries
1 to 4). A statement that gives the next state as a record update says with it that every other field is unchanged. -/

open Sys2Proof Sys2Proof.Machine

/-! ## Encoding and selection -/

/-- Decode and encode agree on every operation with every operand its encoding admits (R61, R68, R69). That the keys of
the rows without a word are the events and requests of `Key` is the model's choice (log entry 9). -/
def Obligations.DecodeOfEncodeGivesTheInstruction : Prop :=
  ∀ i : Instr, i.wellFormed = true → decode (encode i) = i

/-- The other direction: every key is the key of the operation it selects, but that `A.RESYNC` is selected by one word
at every position above 0; and every key selects a well-formed operation (R61, R68; log entry 9). -/
def Obligations.EncodeOfDecodeGivesTheKey : Prop :=
  (∀ k : Key, decode k ≠ .aResync → encode (decode k) = k) ∧
  (∀ k : Key, decode k = .aResync ↔ ∃ ph, ph ≠ Phase.awaitStart ∧ k = .lb ph 0x07E#9) ∧
  (∀ k : Key, (∀ payload, k = .framePayload payload → payload.length ≤ 65535) → (decode k).wellFormed = true)

/-- R61: a raw byte is decoded by the value of `esc_pending` first and the value of the byte second. -/
def Obligations.RawByteSelectsByEscapeThenValue : Prop :=
  ∀ (s : State) (b : Byte),
    (s.escPending = true → s.selected (.raw b) = .dUnesc b) ∧
    (s.escPending = false → b = 0x7D#8 → s.selected (.raw b) = .dEsc) ∧
    (s.escPending = false → b ≠ 0x7D#8 → s.selected (.raw b) = .dLit b)

/-- R68: the guards in their order select the operation of a logical byte. The order of guards 3, 6 and 8 is the spec's
own decision D7. -/
def Obligations.LogicalByteGuardsSelectInOrder : Prop :=
  ∀ (s : State) (lb : LogicalByte),
    (s.pos = 0 → lb.v = 0x7E#8 → decode (s.lbKey lb) = .aStart lb.escaped) ∧
    (s.pos = 0 → lb.v ≠ 0x7E#8 → decode (s.lbKey lb) = .aNostart lb.escaped lb.v) ∧
    (0 < s.pos → lb.v = 0x7E#8 → lb.escaped = false → decode (s.lbKey lb) = .aResync) ∧
    (¬(lb.v = 0x7E#8 ∧ lb.escaped = false) →
      (s.pos = 1 → decode (s.lbKey lb) = .aLenhi lb.escaped lb.v) ∧
      (s.pos = 2 → decode (s.lbKey lb) = .aLenlo lb.escaped lb.v) ∧
      (3 ≤ s.pos → s.cfg.maxFrame ≤ s.pos → decode (s.lbKey lb) = .aOversize lb.escaped lb.v) ∧
      (3 ≤ s.pos → s.pos < s.cfg.maxFrame → s.pos < s.dlen + 3 → decode (s.lbKey lb) = .aData lb.escaped lb.v) ∧
      (3 ≤ s.pos → s.pos < s.cfg.maxFrame → s.pos = s.dlen + 3 → decode (s.lbKey lb) = .aCsum lb.escaped lb.v))

/-- Words written out from the spec's encodings (R61, R68) decode to the operations they stand for; the byte layout of a
RAW9 word is the model's choice (log entry 9). -/
def Obligations.WordsOfTheSpecDecode : Prop :=
  decodeBytes [0b01111101, 0] = .ok .dEsc ∧
  decodeBytes [0b01011110, 1] = .ok (.dUnesc 0x5E#8) ∧
  decodeBytes [0b01111110, 0] = .ok (.dLit 0x7E#8) ∧
  decode (.lb .awaitStart 0b101111110) = .aStart true ∧
  decode (.lb .payload 0b001111110) = .aResync ∧
  decode (.lb .readLengthHigh 0b101111110) = .aLenhi true 0x7E#8 ∧
  decode (.lb .checksum 0b011011111) = .aCsum false 0xDF#8

/-- The bytes of a RAW9 word decode to what the word decodes to, and two bytes with any bit above the nine are refused
by name. The byte layout is the model's choice (log entry 9). -/
def Obligations.BytesOfAWordDecodeToItsOperation : Prop :=
  (∀ w : BitVec 9, decodeBytes (bytesOfWord w) = .ok (decodeRaw9 w)) ∧
  (∀ lo hi : Byte, 1 < hi.toNat → decodeBytes [lo, hi] = .error .bitsAboveWord)

/-- R100 and R68 give the same dispatch: the FrameAssembler's dispatch function performs the operation the decoder
selects, in every state and for every logical byte. -/
def Obligations.AssemblerDispatchAgreesWithTheDecoder : Prop :=
  ∀ (lb : LogicalByte) (s : State), asmStep lb s = exec (decode (s.lbKey lb)) s

/-! ## The step -/

/-- A step takes the next event of the run, runs the operation it selects on an all-clear result, and shows `classify()`
on the link output (R160, R168; log entries 1, 3 and 4). -/
def Obligations.StepRunsTheSelectedOperation : Prop :=
  ∀ (s : State) (e : Event) (rest : List Event), s.stimulus = e :: rest →
    step s = andThen (exec (s.selected e) { s with stimulus := rest, result := Result.allClear })
      (fun t => .next { t with linkOut := t.classify })

/-- With no event left the block holds all its state (R198, R170; log entry 10). -/
def Obligations.StepWithoutEventIsIdle : Prop :=
  ∀ s : State, s.stimulus = [] → step s = .next s

/-- The word of a row of the opcode table, placed as the next event, is decoded and run by the very next step (log
entry 9). -/
def Obligations.FetchWordRunsTheDecodedOperation : Prop :=
  ∀ (s : State) (nbits w : Nat) (i : Instr), decodeTableWord nbits w = some i →
    step (s.withFetchWord nbits w) =
      andThen (exec i { s with escPending := Nat.testBit w 8, result := Result.allClear })
        (fun t => .next { t with linkOut := t.classify })

/-- The record of an earlier step is read by no later one (R161, R215). -/
def Obligations.EarlierResultsAreNotRead : Prop :=
  ∀ (e : Event) (s : State) (r : Result), perform e { s with result := r } = perform e s

/-! ## ByteDescrambler -/

/-- R91: `D.ESC` sets `esc_pending` and nothing else. -/
def Obligations.EscapePrefixIsTaken : Prop :=
  ∀ s : State, s.escPending = false → exec .dEsc s = .next { s with escPending := true }

/-- R92: `D.UNESC` clears `esc_pending` and performs the FrameAssembler's operation on (`b xor 0x20`, escaped). -/
def Obligations.UnescapedByteIsDelivered : Prop :=
  ∀ (s : State) (b : Byte), FrameInv s → s.escPending = true →
    ∃ t, exec (.dUnesc b) s = .next t ∧
      exec (decode (s.lbKey ⟨b ^^^ 0x20#8, true⟩)) { s with escPending := false } = .next t ∧
      t.escPending = false

/-- R93: `D.LIT` performs the FrameAssembler's operation on (`b`, unescaped) and writes no flag of its own. -/
def Obligations.LiteralByteIsDelivered : Prop :=
  ∀ (s : State) (b : Byte), FrameInv s → s.escPending = false → b ≠ 0x7D#8 →
    ∃ t, exec (.dLit b) s = .next t ∧ exec (decode (s.lbKey ⟨b, false⟩)) s = .next t ∧ t.escPending = false

/-! ## FrameAssembler -/

/-- R101, R110: `A.START` sets `pos` to 1 and nothing else, whatever the tag. -/
def Obligations.StartMarkerOpensAnAttempt : Prop :=
  ∀ (s : State) (e : Bool), s.pos = 0 → exec (.aStart e) s = .next { s with pos := 1 }

/-- R102: `A.NOSTART` reports the byte and changes no register. -/
def Obligations.NoiseByteIsReported : Prop :=
  ∀ (s : State) (e : Bool) (v : Byte), s.pos = 0 → v ≠ 0x7E#8 →
    exec (.aNostart e v) s = .next { s with result := { s.result with err := .noStart, info := v.toNat } }

/-- R103: `A.RESYNC` clears the assembler, takes the byte as the new position-0 byte and reports the position it was
seen at; it does so at every position above 0. -/
def Obligations.FreshStartMarkerResynchronises : Prop :=
  ∀ s : State, 1 ≤ s.pos →
    exec .aResync s = .next
      { s with
        pos := 1
        lenHi := 0
        lenLo := 0
        csum := 0
        buf := []
        result := { s.result with err := .unexpectedStart, info := s.pos } }

/-- R104: `A.LENHI` stores the high length octet, of any value. -/
def Obligations.HighLengthOctetIsTaken : Prop :=
  ∀ (s : State) (e : Bool) (v : Byte), s.pos = 1 → ¬(v = 0x7E#8 ∧ e = false) →
    exec (.aLenhi e v) s = .next { s with lenHi := v, pos := 2 }

/-- R105: `A.LENLO` stores the low length octet; from then on `dlen = len_hi * 256 + len_lo` (R64). -/
def Obligations.LowLengthOctetIsTaken : Prop :=
  ∀ (s : State) (e : Bool) (v : Byte), s.pos = 2 → ¬(v = 0x7E#8 ∧ e = false) →
    ∃ t, exec (.aLenlo e v) s = .next t ∧ t = { s with lenLo := v, pos := 3 } ∧
      t.dlen = 256 * s.lenHi.toNat + v.toNat

/-- R108: `A.OVERSIZE` discards the attempt with the byte that found it and reports the declared length. Where the bound
fires is the spec's own decision D6. -/
def Obligations.OversizeAttemptIsAbandoned : Prop :=
  ∀ (s : State) (e : Bool) (v : Byte), 3 ≤ s.pos → s.cfg.maxFrame ≤ s.pos → ¬(v = 0x7E#8 ∧ e = false) →
    exec (.aOversize e v) s = .next
      { s with
        pos := 0
        lenHi := 0
        lenLo := 0
        csum := 0
        buf := []
        result := { s.result with err := .oversize, info := 256 * s.lenHi.toNat + s.lenLo.toNat } }

/-- R106: `A.DATA` stores the octet at payload index `pos - 3`, adds it to the sum modulo 256 and advances; every other
cell reads as before and every other field is unchanged. -/
def Obligations.PayloadOctetIsStored : Prop :=
  ∀ (s : State) (e : Bool) (v : Byte),
    3 ≤ s.pos → s.pos < s.cfg.maxFrame → s.pos < s.dlen + 3 → ¬(v = 0x7E#8 ∧ e = false) →
    ∃ t, exec (.aData e v) s = .next t ∧
      t.buf.lookup (s.pos - 3) = some v ∧
      (∀ a, a ≠ s.pos - 3 → t.buf.lookup a = s.buf.lookup a) ∧
      t.csum.toNat = (s.csum.toNat + v.toNat) % 256 ∧
      t = { s with buf := t.buf, csum := t.csum, pos := s.pos + 1 }

/-- R107: `A.CSUM` with a valid sum emits the payload, performs `L.ARRIVAL` and `S.DECODE` and clears the assembler; with
a wrong sum it reports the sum, clears the assembler and changes nothing else. The valid case reads the payload, so it
asks that its cells have been written (log entry 6). -/
def Obligations.ChecksumOctetFinishesTheFrame : Prop :=
  ∀ (s : State) (e : Bool) (v : Byte) (payload : List Byte),
    s.pos = s.dlen + 3 → s.pos < s.cfg.maxFrame → ¬(v = 0x7E#8 ∧ e = false) →
    payload.length = s.dlen → (∀ i, i < s.dlen → s.buf.lookup i = payload[i]?) →
    exec (.aCsum e v) s = .next
      (if s.csum + v = 0xFF#8 then
        if payload.length < s.cfg.subhdrLen + s.cfg.appPrefixLen + 25 then
          { s with
            pos := 0
            lenHi := 0
            lenLo := 0
            csum := 0
            buf := []
            seenRecently := true
            lost := false
            everSeen := true
            counter := 0
            result := { s.result with
              frameOk := true
              frame := some payload
              err := .truncated
              info := payload.length } }
        else
          { s with
            pos := 0
            lenHi := 0
            lenLo := 0
            csum := 0
            buf := []
            seenRecently := true
            lost := false
            everSeen := true
            counter := 0
            sample := some (Sample.ofPayload (s.cfg.subhdrLen + s.cfg.appPrefixLen) payload)
            sampleValid := true
            result := { s.result with frameOk := true, frame := some payload, sampleOk := true } }
      else
        { s with
          pos := 0
          lenHi := 0
          lenLo := 0
          csum := 0
          buf := []
          result := { s.result with err := .checksum, info := (s.csum.toNat + v.toNat) % 256 } })

/-! ## SampleDecoder -/

/-- R129: `S.DECODE` writes all sixteen registers from the octets at their offsets from the field base, low octet first,
or, where the payload is too short, none of them. -/
def Obligations.PayloadDecodesIntoTheSample : Prop :=
  ∀ (s : State) (payload : List Byte),
    let base := s.cfg.subhdrLen + s.cfg.appPrefixLen
    let o := fun k => (payload.getD (base + k) 0).toNat
    (payload.length < base + 25 →
      exec (.sDecode payload) s =
        .next { s with result := { s.result with err := .truncated, info := payload.length } }) ∧
    (base + 25 ≤ payload.length →
      ∃ x : Sample,
        exec (.sDecode payload) s =
          .next { s with sample := some x, sampleValid := true, result := { s.result with sampleOk := true } } ∧
        x.batteryVoltage.toNat = o 0 + 256 * o 1 ∧
        x.batteryStatus.toNat = o 2 ∧
        x.chargeStatus.toNat = o 3 ∧
        x.tempPrimary.toNat = o 4 + 256 * o 5 ∧
        x.tempSecondary.toNat = o 6 + 256 * o 7 ∧
        x.humidity.toNat = o 8 + 256 * o 9 ∧
        x.pressure.toNat = o 10 + 256 * o 11 + 65536 * o 12 + 16777216 * o 13 ∧
        x.altitudeComputed.toNat = o 14 + 256 * o 15 ∧
        x.altitudeCorrected.toNat = o 16 + 256 * o 17 ∧
        x.tsHour.toNat = o 18 ∧
        x.tsMinute.toNat = o 19 ∧
        x.tsSecond.toNat = o 20 ∧
        x.tsWeekday.toNat = o 21 ∧
        x.tsYearOffset.toNat = o 22 ∧
        x.tsMonth.toNat = o 23 ∧
        x.tsDay.toNat = o 24)

/-- R71, R72: a fixed-point field is the signed reading of its two octets and stands for that integer over 100, exactly;
the pressure is the signed reading of its four. Two's complement is PRESUMED (K3; log entry 12). -/
def Obligations.FixedPointAndPressureAreSigned : Prop :=
  ∀ (payload : List Byte) (i : Nat),
    let o := fun k => ((octetAt payload (i + k)).toNat : Int)
    let n16 := o 0 + 256 * o 1
    let n32 := o 0 + 256 * o 1 + 65536 * o 2 + 16777216 * o 3
    hundredths (le16 payload i) = (if n16 < 32768 then n16 else n16 - 65536) ∧
    fixedPointValue (le16 payload i) = (hundredths (le16 payload i) : Rat) / 100 ∧
    pressureValue (le32 payload i) = (if n32 < 2147483648 then n32 else n32 - 4294967296)

/-- R131: encoding a sample's fields, between any skipped octets and any trailing octets, and decoding them gives the
sample back. -/
def Obligations.SampleSurvivesEncodingAndDecoding : Prop :=
  ∀ (s : State) (x : Sample) (skipped trailing : List Byte),
    skipped.length = s.cfg.subhdrLen + s.cfg.appPrefixLen →
    exec (.sDecode (skipped ++ x.octets ++ trailing)) s =
      .next { s with sample := some x, sampleValid := true, result := { s.result with sampleOk := true } }

/-! ## LinkWatcher -/

/-- R142: `L.ARRIVAL`; that it writes `ever_seen` is the spec's own decision D14. -/
def Obligations.FrameArrivalSetsTheLink : Prop :=
  ∀ s : State, exec .lArrival s =
    .next { s with seenRecently := true, lost := false, counter := 0, everSeen := true }

/-- R143: `L.TICK`; the strict comparison is the spec's own decision D15, the saturation D16. -/
def Obligations.TickAgesTheLink : Prop :=
  ∀ s : State,
    (s.seenRecently = true → exec .lTick s = .next
      { s with seenRecently := false, lost := s.lost || decide (s.cfg.lostThreshold < s.counter) }) ∧
    (s.seenRecently = false → exec .lTick s = .next
      { s with
        counter := min (s.counter + 1) (s.cfg.lostThreshold + 1)
        lost := s.lost || decide (s.cfg.lostThreshold < min (s.counter + 1) (s.cfg.lostThreshold + 1)) })

/-- R141: `L.RESET` clears all flags and the counter and touches nothing else; the classification is then `Silent`. -/
def Obligations.LinkResetClearsTheLink : Prop :=
  ∀ s : State, ∃ t, exec .lReset s = .next t ∧
    t = { s with seenRecently := false, lost := false, everSeen := false, counter := 0 } ∧ t.classify = .silent

/-- R144: `L.CLASSIFY` tries its clauses in order, puts the value on the output `link_state` (log entry 4) and writes no
register. -/
def Obligations.ClassifyTriesItsClausesInOrder : Prop :=
  ∀ s : State, ∃ l, exec .lClassify s = .next { s with linkOut := l } ∧
    (s.seenRecently = true → l = .working) ∧
    (s.seenRecently = false → s.lost = true → l = .lost) ∧
    (s.seenRecently = false → s.lost = false → s.everSeen = true → s.counter < s.cfg.graceTicks → l = .working) ∧
    (s.seenRecently = false → s.lost = false → s.everSeen = true → s.cfg.graceTicks ≤ s.counter → l = .silent) ∧
    (s.seenRecently = false → s.lost = false → s.everSeen = false → l = .silent)

/-- R148: counting silent ticks from a reset of the link, `Lost` is shown from tick `LOST_THRESHOLD + 1` on. -/
def Obligations.SilentTicksFromResetLoseTheLink : Prop :=
  ∀ (s : State) (n : Nat), ∃ t,
    performAll (.lreset :: List.replicate n .tick) s = .next t ∧
    t.link = ⟨false, decide (s.cfg.lostThreshold < n), false, min n (s.cfg.lostThreshold + 1)⟩ ∧
    t.linkOut = if s.cfg.lostThreshold < n then .lost else .silent

/-- R148: counting ticks from a frame arrival, the first only clears `seen_recently`; the grace window and the loss
follow. -/
def Obligations.TicksAfterAnArrivalLoseTheLink : Prop :=
  ∀ (s : State) (n : Nat), s.link = ⟨true, false, true, 0⟩ → ∃ t,
    performAll (List.replicate (n + 1) .tick) s = .next t ∧
    t.link = ⟨false, decide (s.cfg.lostThreshold < n), true, min n (s.cfg.lostThreshold + 1)⟩ ∧
    t.linkOut = if s.cfg.lostThreshold < n then .lost else if n < s.cfg.graceTicks then .working else .silent

/-- R145: no sequence of updates from a reset of the link can tell the saturating counter from the source's unbounded
one by `classify()`. It holds for all parameters, those that R145 names (`GRACE_TICKS ≤ LOST_THRESHOLD`) among them. -/
def Obligations.SaturatingCounterIsUnobservable : Prop :=
  ∀ (s : State) (us : List LinkUpdate),
    let t := us.foldl (fun x u => u.apply x) (linkReset s)
    let l := us.foldl (fun x u => u.applyUnbounded s.cfg.lostThreshold x) ⟨false, false, false, 0⟩
    t.classify = classifyLink s.cfg.graceTicks l.seenRecently l.lost l.everSeen l.counter

/-- R145 as what one step keeps: while the block's LinkWatcher stands for the unbounded one, a step makes both take the
event's update, the block's still stands for the other, and `link_state` shows `classify()` of the unbounded one. The
fields `stimulus` and `linkOut` are the model's (log entries 1 and 4). -/
def Obligations.StepKeepsStandingForTheUnboundedCounter : Prop :=
  ∀ (s t : State) (e : Event) (rest : List Event) (l : LinkRegisters),
    s.stimulus = e :: rest → StandsFor s l → step s = .next t →
    let l' := l.afterUpdate s.cfg.lostThreshold (linkUpdateOf e t.result)
    StandsFor t l' ∧ t.linkOut = classifyLink s.cfg.graceTicks l'.seenRecently l'.lost l'.everSeen l'.counter

/-- R150: in one clock cycle a tick before a completing raw byte leaves what the raw byte alone leaves, and a link reset
in the cycle leaves the link cleared. The order in a cycle is the spec's own decision D2. -/
def Obligations.SharedCycleArrivalWinsOverTickResetOverBoth : Prop :=
  ∀ (s t : State) (c : CycleInput), c.rst = false → c.rxValid = true → clockCycle c s = .next t →
    (c.linkReset = true → t.link = ⟨false, false, false, 0⟩) ∧
    (∀ u, c.linkReset = false → perform (.raw c.rxData) s = .next u → u.result.frameOk = true → t = u)

/-! ## The whole block -/

/-- R210, R31: `RESET` gives the reset state whatever the state was before; `sample` unspecified is the spec's value
`none` (log entry 5). -/
def Obligations.BlockResetGivesTheResetState : Prop :=
  ∀ s : State,
    exec .xReset s =
      .next { State.resetOf s.cfg with stimulus := s.stimulus, result := s.result, linkOut := s.linkOut } ∧
    perform .reset s = .next { State.resetOf s.cfg with stimulus := s.stimulus }

/-- Every operation with a `requires` line (R91 to R93, R101 to R108) is refused by its name exactly where that line, with
the guard of R61 or R68 on its operands, does not hold. That it is refused is the model's choice (log entry 7): no
decoder selects it there. -/
def Obligations.OperationsOffTheirGuardAreRefused : Prop :=
  ∀ (s : State) (e : Bool) (v : Byte),
    let fresh := v = 0x7E#8 ∧ e = false
    (exec .dEsc s = .refused (.operationNotSelected "D.ESC") ↔ ¬s.escPending = false) ∧
    (exec (.dUnesc v) s = .refused (.operationNotSelected "D.UNESC") ↔ ¬s.escPending = true) ∧
    (exec (.dLit v) s = .refused (.operationNotSelected "D.LIT") ↔ ¬(s.escPending = false ∧ v ≠ 0x7D#8)) ∧
    (exec (.aStart e) s = .refused (.operationNotSelected "A.START") ↔ ¬s.pos = 0) ∧
    (exec (.aNostart e v) s = .refused (.operationNotSelected "A.NOSTART") ↔ ¬(s.pos = 0 ∧ v ≠ 0x7E#8)) ∧
    (exec .aResync s = .refused (.operationNotSelected "A.RESYNC") ↔ ¬1 ≤ s.pos) ∧
    (exec (.aLenhi e v) s = .refused (.operationNotSelected "A.LENHI") ↔ ¬(s.pos = 1 ∧ ¬fresh)) ∧
    (exec (.aLenlo e v) s = .refused (.operationNotSelected "A.LENLO") ↔ ¬(s.pos = 2 ∧ ¬fresh)) ∧
    (exec (.aOversize e v) s = .refused (.operationNotSelected "A.OVERSIZE") ↔
      ¬(3 ≤ s.pos ∧ s.cfg.maxFrame ≤ s.pos ∧ ¬fresh)) ∧
    (exec (.aData e v) s = .refused (.operationNotSelected "A.DATA") ↔
      ¬(3 ≤ s.pos ∧ s.pos < s.cfg.maxFrame ∧ s.pos < s.dlen + 3 ∧ ¬fresh)) ∧
    (exec (.aCsum e v) s = .refused (.operationNotSelected "A.CSUM") ↔
      ¬(3 ≤ s.pos ∧ s.pos < s.cfg.maxFrame ∧ s.pos = s.dlen + 3 ∧ ¬fresh))

/-- R166, R187: a step's result is one of the seven, its `info` in the range of its error, and a step that is no `RAW`
gives all-clear. The upper end of the range of `E_UNEXPECTED_START` rests on R28, so it asks for the frame path's
invariant. -/
def Obligations.ResultsAreTheSevenOfTheRule : Prop :=
  ∀ (e : Event) (s t : State), perform e s = .next t →
    t.result.Legal s.cfg ∧
    (FrameInv s → t.result.err = .unexpectedStart → t.result.info ≤ s.cfg.maxFrame) ∧
    ((∀ b, e ≠ .raw b) → t.result = Result.allClear)

/-- R30: a step that hands over a logical byte leaves `esc_pending` 0, and so does every step that reports anything. -/
def Obligations.DeliveredByteLeavesNoEscapePending : Prop :=
  ∀ (s t : State) (b : Byte), perform (.raw b) s = .next t →
    t.escPending = (descramble s.escPending b).1 ∧
    ((descramble s.escPending b).2 ≠ none → t.escPending = false) ∧
    (t.result ≠ Result.allClear → t.escPending = false)

/-- R190: what each error changes. -/
def Obligations.ErrorsChangeWhatTheirEntrySays : Prop :=
  ∀ (s t : State) (b : Byte), perform (.raw b) s = .next t →
    (t.result.err = .noStart →
      t.framePath = { s.framePath with escPending := false } ∧ t.pos = 0 ∧ t.link = s.link) ∧
    (t.result.err = .unexpectedStart →
      t.framePath = ⟨false, 1, 0, 0, 0, [], s.sampleValid, s.sample⟩ ∧ t.link = s.link) ∧
    (t.result.err = .oversize ∨ t.result.err = .checksum →
      t.framePath = ⟨false, 0, 0, 0, 0, [], s.sampleValid, s.sample⟩ ∧ t.link = s.link) ∧
    (t.result.err = .truncated →
      t.framePath = ⟨false, 0, 0, 0, 0, [], s.sampleValid, s.sample⟩ ∧ t.link = ⟨true, false, true, 0⟩)

/-- R189: which of several simultaneous conditions is reported, on the raw byte that meets them. The order is the spec's
own decision D7 where the source is silent. -/
def Obligations.PriorityAmongSimultaneousConditions : Prop :=
  ∀ (s : State) (b : Byte), FrameInv s →
    let lb : LogicalByte := if s.escPending then ⟨b ^^^ 0x20#8, true⟩ else ⟨b, false⟩
    let short := s.dlen < s.cfg.subhdrLen + s.cfg.appPrefixLen + 25
    ((s.escPending = true ∨ b ≠ 0x7D#8) → ∃ t, perform (.raw b) s = .next t ∧
      (s.pos = 0 → lb.v = 0x7E#8 → t.result = Result.allClear) ∧
      (0 < s.pos → lb = ⟨0x7E#8, false⟩ → t.result = ⟨false, none, false, .unexpectedStart, s.pos⟩ ∧ t.pos = 1) ∧
      (s.pos = s.cfg.maxFrame → lb ≠ ⟨0x7E#8, false⟩ → t.result = ⟨false, none, false, .oversize, s.dlen⟩) ∧
      (3 ≤ s.pos → s.pos < s.cfg.maxFrame → s.pos = s.dlen + 3 → lb ≠ ⟨0x7E#8, false⟩ → short →
        s.csum + lb.v = 0xFF#8 → t.result.frameOk = true ∧ t.result.err = .truncated) ∧
      (3 ≤ s.pos → s.pos < s.cfg.maxFrame → s.pos = s.dlen + 3 → lb ≠ ⟨0x7E#8, false⟩ → short →
        s.csum + lb.v ≠ 0xFF#8 → t.result = ⟨false, none, false, .checksum, (s.csum + lb.v).toNat⟩))

/-- R114, R216: no sequence of `TICK` and `LRESET` events changes anything of the frame path: an open attempt and a
pending escape wait for the next raw byte. -/
def Obligations.TicksAndLinkResetsLeaveTheFramePath : Prop :=
  ∀ (es : List Event) (s : State), (∀ e ∈ es, e = .tick ∨ e = .lreset) →
    ∃ t, performAll es s = .next t ∧ t.framePath = s.framePath ∧ t.cfg = s.cfg

/-- R147: a raw byte changes the LinkWatcher only by completing a valid frame, and then it is an arrival. That every
valid frame counts is the spec's own decision D9. -/
def Obligations.RawBytesTouchTheLinkOnlyByArrival : Prop :=
  ∀ (s t : State) (b : Byte), perform (.raw b) s = .next t →
    t.link = if t.result.frameOk then ⟨true, false, true, 0⟩ else s.link

/-- R17: in one step the sample is replaced whole by a successful decode of the frame the step reports, dropped by
`RESET`, or left as it was. -/
def Obligations.SampleIsReplacedWholeOrKept : Prop :=
  ∀ (e : Event) (s t : State), perform e s = .next t →
    (∃ b payload, e = .raw b ∧ t.result.sampleOk = true ∧ t.result.frame = some payload ∧
      t.sampleValid = true ∧ t.sample = some (Sample.ofPayload s.cfg.fieldBase payload)) ∨
    (e = .reset ∧ t.sampleValid = false ∧ t.sample = none) ∨
    (e ≠ .reset ∧ t.result.sampleOk = false ∧ t.sampleValid = s.sampleValid ∧ t.sample = s.sample)

/-- R53: moving a `TICK` or an `LRESET` from after a raw byte that completes no frame to before it changes nothing but
which step's result is shown last. -/
def Obligations.LinkEventMovesAcrossAnIncompleteRawByte : Prop :=
  ∀ (s t u : State) (b : Byte) (e : Event), e = .tick ∨ e = .lreset →
    perform (.raw b) s = .next t → t.result.frameOk = false → perform e t = .next u →
    ∃ t' u', perform e s = .next t' ∧ perform (.raw b) t' = .next u' ∧
      u'.result = t.result ∧ { u' with result := Result.allClear } = u

/-- R195: the LinkWatcher never influences the frame path: two runs of one sequence of events from states that differ
only in the LinkWatcher report the same results and leave the same frame path. -/
def Obligations.LinkNeverInfluencesTheFramePath : Prop :=
  ∀ (es : List Event) (s₁ s₂ t₁ t₂ : State),
    s₁.framePath = s₂.framePath → s₁.cfg = s₂.cfg → s₁.result = s₂.result →
    performAll es s₁ = .next t₁ → performAll es s₂ = .next t₂ →
    t₁.framePath = t₂.framePath ∧ t₁.result = t₂.result ∧
      (trace es s₁).map Prod.fst = (trace es s₂).map Prod.fst

/-- R195 as what one step keeps: of two states that differ in the LinkWatcher alone, if one answers a next state so does
the other, and the two differ in the LinkWatcher alone again. -/
def Obligations.StepKeepsAgreementButLink : Prop :=
  ∀ s₁ s₂ t₁ : State, AgreeButLink s₁ s₂ → step s₁ = .next t₁ →
    ∃ t₂, step s₂ = .next t₂ ∧ AgreeButLink t₁ t₂

/-! ## Invariants and totality -/

/-- The reset state of every legal configuration, the reference one among them, satisfies the invariants of R27 to R30
(R31). -/
def Obligations.ResetSatisfiesTheInvariant : Prop :=
  (∀ c : Config, c.Valid → BlockInv (State.resetOf c)) ∧ BlockInv State.reset

/-- R27 to R30 with what they rest on (R12, R14, R15, R19, R20, R41): every step keeps them. -/
def Obligations.StepKeepsTheInvariant : Prop :=
  ∀ s t : State, BlockInv s → step s = .next t → BlockInv t

/-- R5, R170: in a state that satisfies the invariants no step faults or is refused. -/
def Obligations.StepNeverStops : Prop :=
  ∀ s : State, BlockInv s → ∃ t, step s = .next t

/-- R170: a run of `n` events from such a state has exactly `n` steps, so its trace has `n` entries. -/
def Obligations.RunsHaveOneStepPerEvent : Prop :=
  ∀ (es : List Event) (s : State), BlockInv s →
    ∃ t, performAll es s = .next t ∧ BlockInv t ∧ (trace es s).length = es.length

/-- The payload buffer keeps its canonical form and no cell beyond index `MAX_FRAME - 4` is ever written (R40, R41), in
every step whatever the state. -/
def Obligations.StepKeepsTheBufferCanonicalAndBounded : Prop :=
  ∀ s t : State, step s = .next t →
    (s.buf.wf = true → t.buf.wf = true) ∧
    ((∀ c ∈ s.buf, c.1 + 4 ≤ s.cfg.maxFrame) → ∀ c ∈ t.buf, c.1 + 4 ≤ t.cfg.maxFrame)

/-- R10: the parameters are fixed: no step changes them (log entry 2). -/
def Obligations.StepKeepsTheParameters : Prop :=
  ∀ s t : State, step s = .next t → t.cfg = s.cfg

/-! ## Frames and streams -/

/-- R115 (a), (b): from any state that satisfies the invariants with no escape pending, whatever attempt is open, the raw
bytes of a frame that fits end with the assembler cleared, in a step that emits exactly its payload if its checksum
octet is the valid one, and in `E_CHECKSUM` if it is any other. Every field of the block is given. -/
def Obligations.FrameIsEmittedOrItsChecksumReported : Prop :=
  ∀ (s : State) (payload : List Byte) (c : Byte),
    BlockInv s → s.escPending = false → payload.length + 4 ≤ s.cfg.maxFrame →
    ∃ t, performAll (batch (frameOctets payload c)) s = .next t ∧ t.cfg = s.cfg ∧
      (octetSum payload + c = 0xFF#8 → payload.length < s.cfg.minPayloadLen →
        t.result = ⟨true, some payload, false, .truncated, payload.length⟩ ∧
        t.framePath = ⟨false, 0, 0, 0, 0, [], s.sampleValid, s.sample⟩ ∧ t.link = ⟨true, false, true, 0⟩) ∧
      (octetSum payload + c = 0xFF#8 → s.cfg.minPayloadLen ≤ payload.length →
        t.result = ⟨true, some payload, true, .none, 0⟩ ∧
        t.framePath = ⟨false, 0, 0, 0, 0, [], true, some (Sample.ofPayload s.cfg.fieldBase payload)⟩ ∧
        t.link = ⟨true, false, true, 0⟩) ∧
      (octetSum payload + c ≠ 0xFF#8 →
        t.result = ⟨false, none, false, .checksum, (octetSum payload + c).toNat⟩ ∧
        t.framePath = ⟨false, 0, 0, 0, 0, [], s.sampleValid, s.sample⟩ ∧ t.link = s.link)

/-- R96 (b), (c): a raw 0x7E or 0x7D with no escape pending is never stored as length, payload or checksum. -/
def Obligations.UnescapedMarkersAreNeverStored : Prop :=
  ∀ (s t : State) (b : Byte), s.escPending = false → b = 0x7E#8 ∨ b = 0x7D#8 → perform (.raw b) s = .next t →
    (t.buf = s.buf ∧ t.lenHi = s.lenHi ∧ t.lenLo = s.lenLo ∧ t.csum = s.csum ∨
      t.buf = [] ∧ t.lenHi = 0 ∧ t.lenLo = 0 ∧ t.csum = 0) ∧
    (b = 0x7E#8 → t.pos = 1)

/-- R96 (a), (d): of the operations a raw byte selects, `D.ESC` delivers nothing and every other one performs the
FrameAssembler's dispatch on the logical byte it delivers, which is never an unescaped 0x7D. Along a run of raw bytes the
logical bytes so delivered are the logical stream, none of them an unescaped 0x7D, and they are as many as the raw bytes
less the `D.ESC` operations performed. -/
def Obligations.LogicalStreamHasNoUnescapedEscapeMarker : Prop :=
  (∀ (s : State) (b : Byte),
    (s.selected (.raw b) = .dEsc ∧ deliveredBy (s.selected (.raw b)) = none ∧
        exec (s.selected (.raw b)) s = .next { s with escPending := true }) ∨
      ∃ lb, s.selected (.raw b) ≠ .dEsc ∧ deliveredBy (s.selected (.raw b)) = some lb ∧
        (lb.escaped = false → lb.v ≠ 0x7D#8) ∧
        exec (s.selected (.raw b)) s = asmStep lb { s with escPending := false }) ∧
  (∀ (s : State) (bs : List Byte), BlockInv s →
    let ops := selections (batch bs) s
    ops.filterMap deliveredBy = logicalStream s.escPending bs ∧
    (∀ lb ∈ ops.filterMap deliveredBy, lb.escaped = false → lb.v ≠ 0x7D#8) ∧
    (ops.filterMap deliveredBy).length + ops.count .dEsc = bs.length)

/-- R167: how raw bytes are grouped into batches changes nothing: the host's run of two batches loaded as the stimulus one
after the other is its run of both loaded at once, stops included; and from a state that satisfies the invariants a
batch's run has a step for every octet and stops nowhere. The stimulus is the model's own (log entry 1). -/
def Obligations.BatchesSplitAnywhere : Prop :=
  (∀ (xs ys : List Byte) (s : State),
    Host.Core.run Sys2Proof.core (xs ++ ys).length (s.withStimulus (batch (xs ++ ys))) =
      andThen (Host.Core.run Sys2Proof.core xs.length (s.withStimulus (batch xs)))
        (fun t => Host.Core.run Sys2Proof.core ys.length (t.withStimulus (batch ys)))) ∧
  (∀ (xs : List Byte) (s : State), BlockInv s →
    ∃ t : State, Host.Core.run Sys2Proof.core xs.length (s.withStimulus (batch xs)) = .next t ∧ BlockInv t ∧
      t.stimulus = [])

/-- A run loaded as the stimulus (log entry 1) is performed by as many steps as it has events. -/
def Obligations.StepsPerformTheStimulus : Prop :=
  ∀ (es : List Event) (s t : State), s.stimulus = [] → performAll es s = .next t →
    Host.Core.run Sys2Proof.core es.length (s.withStimulus es) = .next t

/-! ## Codes -/

/-- R75, R76: the numeric codes of the errors and of the link states (the spec's own decision D8). -/
def Obligations.ResultCodesAreTheTables : Prop :=
  (ErrCode.none.code = 0 ∧ ErrCode.noStart.code = 1 ∧ ErrCode.unexpectedStart.code = 2 ∧ ErrCode.oversize.code = 3 ∧
    ErrCode.checksum.code = 4 ∧ ErrCode.truncated.code = 5) ∧
  (LinkState.silent.code = 0 ∧ LinkState.working.code = 1 ∧ LinkState.lost.code = 2)
end

