-- ==== Sys2Proof/Laws/Decode.lean ====
section
/-! SUPPORT. The nine-bit words: tag and octet in and out. -/

namespace Sys2Proof

@[simp] theorem tagOf_tagged (e : Bool) (v : Byte) : tagOf (tagged e v) = e := by
  unfold tagOf tagged
  rw [BitVec.getLsbD_append]
  cases e <;> rfl

@[simp] theorem octetOf_tagged (e : Bool) (v : Byte) : octetOf (tagged e v) = v := by
  apply BitVec.eq_of_getLsbD_eq
  intro i hi
  simp only [octetOf, tagged, BitVec.getLsbD_extractLsb', Nat.zero_add, BitVec.getLsbD_append]
  simp [hi]

@[simp] theorem tagged_tagOf_octetOf (w : BitVec 9) : tagged (tagOf w) (octetOf w) = w := by
  apply BitVec.eq_of_getLsbD_eq
  intro i hi
  simp only [octetOf, tagged, tagOf, BitVec.getLsbD_extractLsb', Nat.zero_add, BitVec.getLsbD_append]
  by_cases h : i < 8
  · simp [h]
  · obtain rfl : i = 8 := by omega
    simp

/-- A logical byte that is an unescaped start marker is the one pair guard 3 of R68 names. -/
theorem notFreshStart_eq_false_iff (e : Bool) (v : Byte) :
    notFreshStart e v = false ↔ v = startMarker ∧ e = false := by
  cases e <;> simp [notFreshStart]

/-- Any other logical byte. -/
theorem notFreshStart_eq_true_iff (e : Bool) (v : Byte) :
    notFreshStart e v = true ↔ ¬(v = startMarker ∧ e = false) := by
  cases e <;> simp [notFreshStart]

end Sys2Proof
end

