-- ==== Sys2Proof/Laws/Memory.lean ====
section
/-! SUPPORT. The laws of the payload buffer: read after write, the canonical form, and what a range read answers. -/

namespace Sys2Proof.Machine

@[simp] theorem Memory.lookup_nil (a : Nat) : Memory.lookup [] a = none := rfl

theorem Memory.lookup_write_same (m : Memory) (a : Nat) (v : Byte) : (m.write a v).lookup a = some v := by
  induction m with
  | nil => simp [Memory.write, Memory.lookup]
  | cons c m ih =>
    obtain ⟨b, w⟩ := c
    unfold Memory.write
    split
    · simp [Memory.lookup]
    · split
      · simp [Memory.lookup]
      · rename_i h
        simp [Memory.lookup, h, ih]

theorem Memory.lookup_write_other (m : Memory) (a i : Nat) (v : Byte) (h : i ≠ a) :
    (m.write a v).lookup i = m.lookup i := by
  induction m with
  | nil => simp [Memory.write, Memory.lookup, h]
  | cons c m ih =>
    obtain ⟨b, w⟩ := c
    unfold Memory.write
    split
    · simp [Memory.lookup, h]
    · split
      · rename_i hab
        subst hab
        simp [Memory.lookup, h]
      · simp [Memory.lookup, ih]

theorem Memory.above_iff (a : Nat) (m : Memory) : m.above a = true ↔ ∀ c ∈ m, a < c.1 := by
  induction m with
  | nil => simp [Memory.above]
  | cons c m ih => obtain ⟨b, w⟩ := c; simp [Memory.above, ih]

theorem Memory.write_above (m : Memory) (a b : Nat) (v : Byte) (hab : b < a) (h : m.above b = true) :
    (m.write a v).above b = true := by
  induction m with
  | nil => simp [Memory.write, Memory.above, hab]
  | cons c m ih =>
    obtain ⟨i, w⟩ := c
    simp only [Memory.above, Bool.and_eq_true, decide_eq_true_eq] at h
    unfold Memory.write
    split
    · simp [Memory.above, hab, h]
    · split
      · simp [Memory.above, hab, h.2]
      · simp [Memory.above, h.1, ih h.2]

/-- Every write keeps the canonical form. -/
theorem Memory.write_wf (m : Memory) (a : Nat) (v : Byte) (h : m.wf = true) : (m.write a v).wf = true := by
  induction m with
  | nil => simp [Memory.write, Memory.wf, Memory.above]
  | cons c m ih =>
    obtain ⟨b, w⟩ := c
    simp only [Memory.wf, Bool.and_eq_true] at h
    unfold Memory.write
    split
    · rename_i hab
      have hm : Memory.above a m = true := by
        rw [Memory.above_iff] at *
        intro c hc
        exact lt_trans hab (h.1 c hc)
      simp [Memory.wf, Memory.above, hab, hm, h.1, h.2]
    · split
      · rename_i hab
        subst hab
        simp [Memory.wf, h.1, h.2]
      · rename_i h1 h2
        simp [Memory.wf, ih h.2, Memory.write_above m a b v (by omega) h.1]

/-- Writing above every index in use appends the cell. -/
theorem Memory.write_append (m : Memory) (a : Nat) (v : Byte) (h : ∀ c ∈ m, c.1 < a) :
    m.write a v = m ++ [(a, v)] := by
  induction m with
  | nil => rfl
  | cons c m ih =>
    obtain ⟨b, w⟩ := c
    have hb : b < a := h (b, w) (by simp)
    have := ih fun c hc => h c (List.mem_cons_of_mem _ hc)
    unfold Memory.write
    rw [if_neg (by omega), if_neg (by omega), this]
    rfl

/-- What a range read answers: the octets of the cells, in order. -/
theorem Memory.readRange_ok_iff (m : Memory) (a n : Nat) (vs : List Byte) :
    m.readRange a n = .ok vs ↔ vs.length = n ∧ ∀ i (h : i < vs.length), m.lookup (a + i) = some vs[i] := by
  induction n generalizing a vs with
  | zero =>
    constructor
    · intro h
      simp only [Memory.readRange, Except.ok.injEq] at h
      subst h
      simp
    · rintro ⟨h, -⟩
      simp [Memory.readRange, List.length_eq_zero_iff.1 h]
  | succ n ih =>
    unfold Memory.readRange
    constructor
    · intro h
      split at h
      · cases h
      · rename_i v hv
        split at h
        · rename_i us hus
          obtain ⟨hl, hall⟩ := (ih (a + 1) us).1 hus
          cases h
          refine ⟨by simp [hl], fun i hi => ?_⟩
          cases i with
          | zero => simpa using hv
          | succ i =>
            have := hall i (by simpa using hi)
            simpa [Nat.add_assoc, Nat.add_comm 1 i] using this
        · cases h
    · rintro ⟨hl, hall⟩
      cases vs with
      | nil => simp at hl
      | cons v us =>
        have h0 : m.lookup a = some v := hall 0 (by simp)
        have hr : m.readRange (a + 1) n = .ok us := by
          refine (ih (a + 1) us).2 ⟨by simpa using hl, fun i hi => ?_⟩
          have := hall (i + 1) (by simpa using hi)
          simpa [Nat.add_assoc, Nat.add_comm 1 i] using this
        simp [h0, hr]

end Sys2Proof.Machine
end

