-- ==== Sys2Proof/Laws/State.lean ====
section
/-! SUPPORT. One lemma per field per state update, true by rfl, and the same for the values computed from fields, so that
no proof unfolds a record update. -/

namespace Sys2Proof.Machine

/-! ## `setEsc` -/

@[simp] theorem setEsc_cfg (s : State) (e : Bool) : (s.setEsc e).cfg = s.cfg := rfl
@[simp] theorem setEsc_escPending (s : State) (e : Bool) : (s.setEsc e).escPending = e := rfl
@[simp] theorem setEsc_pos (s : State) (e : Bool) : (s.setEsc e).pos = s.pos := rfl
@[simp] theorem setEsc_lenHi (s : State) (e : Bool) : (s.setEsc e).lenHi = s.lenHi := rfl
@[simp] theorem setEsc_lenLo (s : State) (e : Bool) : (s.setEsc e).lenLo = s.lenLo := rfl
@[simp] theorem setEsc_csum (s : State) (e : Bool) : (s.setEsc e).csum = s.csum := rfl
@[simp] theorem setEsc_buf (s : State) (e : Bool) : (s.setEsc e).buf = s.buf := rfl
@[simp] theorem setEsc_sampleValid (s : State) (e : Bool) : (s.setEsc e).sampleValid = s.sampleValid := rfl
@[simp] theorem setEsc_sample (s : State) (e : Bool) : (s.setEsc e).sample = s.sample := rfl
@[simp] theorem setEsc_seenRecently (s : State) (e : Bool) : (s.setEsc e).seenRecently = s.seenRecently := rfl
@[simp] theorem setEsc_lost (s : State) (e : Bool) : (s.setEsc e).lost = s.lost := rfl
@[simp] theorem setEsc_everSeen (s : State) (e : Bool) : (s.setEsc e).everSeen = s.everSeen := rfl
@[simp] theorem setEsc_counter (s : State) (e : Bool) : (s.setEsc e).counter = s.counter := rfl
@[simp] theorem setEsc_stimulus (s : State) (e : Bool) : (s.setEsc e).stimulus = s.stimulus := rfl
@[simp] theorem setEsc_result (s : State) (e : Bool) : (s.setEsc e).result = s.result := rfl
@[simp] theorem setEsc_linkOut (s : State) (e : Bool) : (s.setEsc e).linkOut = s.linkOut := rfl
@[simp] theorem setEsc_dlen (s : State) (e : Bool) : (s.setEsc e).dlen = s.dlen := rfl
@[simp] theorem setEsc_phase (s : State) (e : Bool) : (s.setEsc e).phase = s.phase := rfl
@[simp] theorem setEsc_link (s : State) (e : Bool) : (s.setEsc e).link = s.link := rfl
@[simp] theorem setEsc_classify (s : State) (e : Bool) : (s.setEsc e).classify = s.classify := rfl
@[simp] theorem setEsc_counterAfterTick (s : State) (e : Bool) : counterAfterTick (s.setEsc e) = counterAfterTick s := rfl
@[simp] theorem setEsc_lostAfterTick (s : State) (e : Bool) : lostAfterTick (s.setEsc e) = lostAfterTick s := rfl

/-! ## `setPos` -/

@[simp] theorem setPos_cfg (s : State) (p : Nat) : (s.setPos p).cfg = s.cfg := rfl
@[simp] theorem setPos_escPending (s : State) (p : Nat) : (s.setPos p).escPending = s.escPending := rfl
@[simp] theorem setPos_pos (s : State) (p : Nat) : (s.setPos p).pos = p := rfl
@[simp] theorem setPos_lenHi (s : State) (p : Nat) : (s.setPos p).lenHi = s.lenHi := rfl
@[simp] theorem setPos_lenLo (s : State) (p : Nat) : (s.setPos p).lenLo = s.lenLo := rfl
@[simp] theorem setPos_csum (s : State) (p : Nat) : (s.setPos p).csum = s.csum := rfl
@[simp] theorem setPos_buf (s : State) (p : Nat) : (s.setPos p).buf = s.buf := rfl
@[simp] theorem setPos_sampleValid (s : State) (p : Nat) : (s.setPos p).sampleValid = s.sampleValid := rfl
@[simp] theorem setPos_sample (s : State) (p : Nat) : (s.setPos p).sample = s.sample := rfl
@[simp] theorem setPos_seenRecently (s : State) (p : Nat) : (s.setPos p).seenRecently = s.seenRecently := rfl
@[simp] theorem setPos_lost (s : State) (p : Nat) : (s.setPos p).lost = s.lost := rfl
@[simp] theorem setPos_everSeen (s : State) (p : Nat) : (s.setPos p).everSeen = s.everSeen := rfl
@[simp] theorem setPos_counter (s : State) (p : Nat) : (s.setPos p).counter = s.counter := rfl
@[simp] theorem setPos_stimulus (s : State) (p : Nat) : (s.setPos p).stimulus = s.stimulus := rfl
@[simp] theorem setPos_result (s : State) (p : Nat) : (s.setPos p).result = s.result := rfl
@[simp] theorem setPos_linkOut (s : State) (p : Nat) : (s.setPos p).linkOut = s.linkOut := rfl
@[simp] theorem setPos_dlen (s : State) (p : Nat) : (s.setPos p).dlen = s.dlen := rfl
@[simp] theorem setPos_link (s : State) (p : Nat) : (s.setPos p).link = s.link := rfl
@[simp] theorem setPos_classify (s : State) (p : Nat) : (s.setPos p).classify = s.classify := rfl
@[simp] theorem setPos_counterAfterTick (s : State) (p : Nat) : counterAfterTick (s.setPos p) = counterAfterTick s := rfl
@[simp] theorem setPos_lostAfterTick (s : State) (p : Nat) : lostAfterTick (s.setPos p) = lostAfterTick s := rfl

/-! ## `setLenHi` -/

@[simp] theorem setLenHi_cfg (s : State) (v : Byte) : (s.setLenHi v).cfg = s.cfg := rfl
@[simp] theorem setLenHi_escPending (s : State) (v : Byte) : (s.setLenHi v).escPending = s.escPending := rfl
@[simp] theorem setLenHi_pos (s : State) (v : Byte) : (s.setLenHi v).pos = s.pos := rfl
@[simp] theorem setLenHi_lenHi (s : State) (v : Byte) : (s.setLenHi v).lenHi = v := rfl
@[simp] theorem setLenHi_lenLo (s : State) (v : Byte) : (s.setLenHi v).lenLo = s.lenLo := rfl
@[simp] theorem setLenHi_csum (s : State) (v : Byte) : (s.setLenHi v).csum = s.csum := rfl
@[simp] theorem setLenHi_buf (s : State) (v : Byte) : (s.setLenHi v).buf = s.buf := rfl
@[simp] theorem setLenHi_sampleValid (s : State) (v : Byte) : (s.setLenHi v).sampleValid = s.sampleValid := rfl
@[simp] theorem setLenHi_sample (s : State) (v : Byte) : (s.setLenHi v).sample = s.sample := rfl
@[simp] theorem setLenHi_seenRecently (s : State) (v : Byte) : (s.setLenHi v).seenRecently = s.seenRecently := rfl
@[simp] theorem setLenHi_lost (s : State) (v : Byte) : (s.setLenHi v).lost = s.lost := rfl
@[simp] theorem setLenHi_everSeen (s : State) (v : Byte) : (s.setLenHi v).everSeen = s.everSeen := rfl
@[simp] theorem setLenHi_counter (s : State) (v : Byte) : (s.setLenHi v).counter = s.counter := rfl
@[simp] theorem setLenHi_stimulus (s : State) (v : Byte) : (s.setLenHi v).stimulus = s.stimulus := rfl
@[simp] theorem setLenHi_result (s : State) (v : Byte) : (s.setLenHi v).result = s.result := rfl
@[simp] theorem setLenHi_linkOut (s : State) (v : Byte) : (s.setLenHi v).linkOut = s.linkOut := rfl
@[simp] theorem setLenHi_link (s : State) (v : Byte) : (s.setLenHi v).link = s.link := rfl
@[simp] theorem setLenHi_classify (s : State) (v : Byte) : (s.setLenHi v).classify = s.classify := rfl
@[simp] theorem setLenHi_counterAfterTick (s : State) (v : Byte) : counterAfterTick (s.setLenHi v) = counterAfterTick s := rfl
@[simp] theorem setLenHi_lostAfterTick (s : State) (v : Byte) : lostAfterTick (s.setLenHi v) = lostAfterTick s := rfl

/-! ## `setLenLo` -/

@[simp] theorem setLenLo_cfg (s : State) (v : Byte) : (s.setLenLo v).cfg = s.cfg := rfl
@[simp] theorem setLenLo_escPending (s : State) (v : Byte) : (s.setLenLo v).escPending = s.escPending := rfl
@[simp] theorem setLenLo_pos (s : State) (v : Byte) : (s.setLenLo v).pos = s.pos := rfl
@[simp] theorem setLenLo_lenHi (s : State) (v : Byte) : (s.setLenLo v).lenHi = s.lenHi := rfl
@[simp] theorem setLenLo_lenLo (s : State) (v : Byte) : (s.setLenLo v).lenLo = v := rfl
@[simp] theorem setLenLo_csum (s : State) (v : Byte) : (s.setLenLo v).csum = s.csum := rfl
@[simp] theorem setLenLo_buf (s : State) (v : Byte) : (s.setLenLo v).buf = s.buf := rfl
@[simp] theorem setLenLo_sampleValid (s : State) (v : Byte) : (s.setLenLo v).sampleValid = s.sampleValid := rfl
@[simp] theorem setLenLo_sample (s : State) (v : Byte) : (s.setLenLo v).sample = s.sample := rfl
@[simp] theorem setLenLo_seenRecently (s : State) (v : Byte) : (s.setLenLo v).seenRecently = s.seenRecently := rfl
@[simp] theorem setLenLo_lost (s : State) (v : Byte) : (s.setLenLo v).lost = s.lost := rfl
@[simp] theorem setLenLo_everSeen (s : State) (v : Byte) : (s.setLenLo v).everSeen = s.everSeen := rfl
@[simp] theorem setLenLo_counter (s : State) (v : Byte) : (s.setLenLo v).counter = s.counter := rfl
@[simp] theorem setLenLo_stimulus (s : State) (v : Byte) : (s.setLenLo v).stimulus = s.stimulus := rfl
@[simp] theorem setLenLo_result (s : State) (v : Byte) : (s.setLenLo v).result = s.result := rfl
@[simp] theorem setLenLo_linkOut (s : State) (v : Byte) : (s.setLenLo v).linkOut = s.linkOut := rfl
@[simp] theorem setLenLo_link (s : State) (v : Byte) : (s.setLenLo v).link = s.link := rfl
@[simp] theorem setLenLo_classify (s : State) (v : Byte) : (s.setLenLo v).classify = s.classify := rfl
@[simp] theorem setLenLo_counterAfterTick (s : State) (v : Byte) : counterAfterTick (s.setLenLo v) = counterAfterTick s := rfl
@[simp] theorem setLenLo_lostAfterTick (s : State) (v : Byte) : lostAfterTick (s.setLenLo v) = lostAfterTick s := rfl

/-! ## `setCsum` -/

@[simp] theorem setCsum_cfg (s : State) (v : Byte) : (s.setCsum v).cfg = s.cfg := rfl
@[simp] theorem setCsum_escPending (s : State) (v : Byte) : (s.setCsum v).escPending = s.escPending := rfl
@[simp] theorem setCsum_pos (s : State) (v : Byte) : (s.setCsum v).pos = s.pos := rfl
@[simp] theorem setCsum_lenHi (s : State) (v : Byte) : (s.setCsum v).lenHi = s.lenHi := rfl
@[simp] theorem setCsum_lenLo (s : State) (v : Byte) : (s.setCsum v).lenLo = s.lenLo := rfl
@[simp] theorem setCsum_csum (s : State) (v : Byte) : (s.setCsum v).csum = v := rfl
@[simp] theorem setCsum_buf (s : State) (v : Byte) : (s.setCsum v).buf = s.buf := rfl
@[simp] theorem setCsum_sampleValid (s : State) (v : Byte) : (s.setCsum v).sampleValid = s.sampleValid := rfl
@[simp] theorem setCsum_sample (s : State) (v : Byte) : (s.setCsum v).sample = s.sample := rfl
@[simp] theorem setCsum_seenRecently (s : State) (v : Byte) : (s.setCsum v).seenRecently = s.seenRecently := rfl
@[simp] theorem setCsum_lost (s : State) (v : Byte) : (s.setCsum v).lost = s.lost := rfl
@[simp] theorem setCsum_everSeen (s : State) (v : Byte) : (s.setCsum v).everSeen = s.everSeen := rfl
@[simp] theorem setCsum_counter (s : State) (v : Byte) : (s.setCsum v).counter = s.counter := rfl
@[simp] theorem setCsum_stimulus (s : State) (v : Byte) : (s.setCsum v).stimulus = s.stimulus := rfl
@[simp] theorem setCsum_result (s : State) (v : Byte) : (s.setCsum v).result = s.result := rfl
@[simp] theorem setCsum_linkOut (s : State) (v : Byte) : (s.setCsum v).linkOut = s.linkOut := rfl
@[simp] theorem setCsum_dlen (s : State) (v : Byte) : (s.setCsum v).dlen = s.dlen := rfl
@[simp] theorem setCsum_phase (s : State) (v : Byte) : (s.setCsum v).phase = s.phase := rfl
@[simp] theorem setCsum_link (s : State) (v : Byte) : (s.setCsum v).link = s.link := rfl
@[simp] theorem setCsum_classify (s : State) (v : Byte) : (s.setCsum v).classify = s.classify := rfl
@[simp] theorem setCsum_counterAfterTick (s : State) (v : Byte) : counterAfterTick (s.setCsum v) = counterAfterTick s := rfl
@[simp] theorem setCsum_lostAfterTick (s : State) (v : Byte) : lostAfterTick (s.setCsum v) = lostAfterTick s := rfl

/-! ## `clear` -/

@[simp] theorem clear_cfg (s : State) : (s.clear).cfg = s.cfg := rfl
@[simp] theorem clear_escPending (s : State) : (s.clear).escPending = s.escPending := rfl
@[simp] theorem clear_pos (s : State) : (s.clear).pos = 0 := rfl
@[simp] theorem clear_lenHi (s : State) : (s.clear).lenHi = 0 := rfl
@[simp] theorem clear_lenLo (s : State) : (s.clear).lenLo = 0 := rfl
@[simp] theorem clear_csum (s : State) : (s.clear).csum = 0 := rfl
@[simp] theorem clear_buf (s : State) : (s.clear).buf = [] := rfl
@[simp] theorem clear_sampleValid (s : State) : (s.clear).sampleValid = s.sampleValid := rfl
@[simp] theorem clear_sample (s : State) : (s.clear).sample = s.sample := rfl
@[simp] theorem clear_seenRecently (s : State) : (s.clear).seenRecently = s.seenRecently := rfl
@[simp] theorem clear_lost (s : State) : (s.clear).lost = s.lost := rfl
@[simp] theorem clear_everSeen (s : State) : (s.clear).everSeen = s.everSeen := rfl
@[simp] theorem clear_counter (s : State) : (s.clear).counter = s.counter := rfl
@[simp] theorem clear_stimulus (s : State) : (s.clear).stimulus = s.stimulus := rfl
@[simp] theorem clear_result (s : State) : (s.clear).result = s.result := rfl
@[simp] theorem clear_linkOut (s : State) : (s.clear).linkOut = s.linkOut := rfl
@[simp] theorem clear_link (s : State) : (s.clear).link = s.link := rfl
@[simp] theorem clear_classify (s : State) : (s.clear).classify = s.classify := rfl
@[simp] theorem clear_counterAfterTick (s : State) : counterAfterTick (s.clear) = counterAfterTick s := rfl
@[simp] theorem clear_lostAfterTick (s : State) : lostAfterTick (s.clear) = lostAfterTick s := rfl

/-! ## `storeSample` -/

@[simp] theorem storeSample_cfg (s : State) (x : Sample) : (s.storeSample x).cfg = s.cfg := rfl
@[simp] theorem storeSample_escPending (s : State) (x : Sample) : (s.storeSample x).escPending = s.escPending := rfl
@[simp] theorem storeSample_pos (s : State) (x : Sample) : (s.storeSample x).pos = s.pos := rfl
@[simp] theorem storeSample_lenHi (s : State) (x : Sample) : (s.storeSample x).lenHi = s.lenHi := rfl
@[simp] theorem storeSample_lenLo (s : State) (x : Sample) : (s.storeSample x).lenLo = s.lenLo := rfl
@[simp] theorem storeSample_csum (s : State) (x : Sample) : (s.storeSample x).csum = s.csum := rfl
@[simp] theorem storeSample_buf (s : State) (x : Sample) : (s.storeSample x).buf = s.buf := rfl
@[simp] theorem storeSample_sampleValid (s : State) (x : Sample) : (s.storeSample x).sampleValid = true := rfl
@[simp] theorem storeSample_sample (s : State) (x : Sample) : (s.storeSample x).sample = some x := rfl
@[simp] theorem storeSample_seenRecently (s : State) (x : Sample) : (s.storeSample x).seenRecently = s.seenRecently := rfl
@[simp] theorem storeSample_lost (s : State) (x : Sample) : (s.storeSample x).lost = s.lost := rfl
@[simp] theorem storeSample_everSeen (s : State) (x : Sample) : (s.storeSample x).everSeen = s.everSeen := rfl
@[simp] theorem storeSample_counter (s : State) (x : Sample) : (s.storeSample x).counter = s.counter := rfl
@[simp] theorem storeSample_stimulus (s : State) (x : Sample) : (s.storeSample x).stimulus = s.stimulus := rfl
@[simp] theorem storeSample_result (s : State) (x : Sample) : (s.storeSample x).result = s.result := rfl
@[simp] theorem storeSample_linkOut (s : State) (x : Sample) : (s.storeSample x).linkOut = s.linkOut := rfl
@[simp] theorem storeSample_dlen (s : State) (x : Sample) : (s.storeSample x).dlen = s.dlen := rfl
@[simp] theorem storeSample_phase (s : State) (x : Sample) : (s.storeSample x).phase = s.phase := rfl
@[simp] theorem storeSample_link (s : State) (x : Sample) : (s.storeSample x).link = s.link := rfl
@[simp] theorem storeSample_classify (s : State) (x : Sample) : (s.storeSample x).classify = s.classify := rfl
@[simp] theorem storeSample_counterAfterTick (s : State) (x : Sample) : counterAfterTick (s.storeSample x) = counterAfterTick s := rfl
@[simp] theorem storeSample_lostAfterTick (s : State) (x : Sample) : lostAfterTick (s.storeSample x) = lostAfterTick s := rfl

/-! ## `dropSample` -/

@[simp] theorem dropSample_cfg (s : State) : (s.dropSample).cfg = s.cfg := rfl
@[simp] theorem dropSample_escPending (s : State) : (s.dropSample).escPending = s.escPending := rfl
@[simp] theorem dropSample_pos (s : State) : (s.dropSample).pos = s.pos := rfl
@[simp] theorem dropSample_lenHi (s : State) : (s.dropSample).lenHi = s.lenHi := rfl
@[simp] theorem dropSample_lenLo (s : State) : (s.dropSample).lenLo = s.lenLo := rfl
@[simp] theorem dropSample_csum (s : State) : (s.dropSample).csum = s.csum := rfl
@[simp] theorem dropSample_buf (s : State) : (s.dropSample).buf = s.buf := rfl
@[simp] theorem dropSample_sampleValid (s : State) : (s.dropSample).sampleValid = false := rfl
@[simp] theorem dropSample_sample (s : State) : (s.dropSample).sample = none := rfl
@[simp] theorem dropSample_seenRecently (s : State) : (s.dropSample).seenRecently = s.seenRecently := rfl
@[simp] theorem dropSample_lost (s : State) : (s.dropSample).lost = s.lost := rfl
@[simp] theorem dropSample_everSeen (s : State) : (s.dropSample).everSeen = s.everSeen := rfl
@[simp] theorem dropSample_counter (s : State) : (s.dropSample).counter = s.counter := rfl
@[simp] theorem dropSample_stimulus (s : State) : (s.dropSample).stimulus = s.stimulus := rfl
@[simp] theorem dropSample_result (s : State) : (s.dropSample).result = s.result := rfl
@[simp] theorem dropSample_linkOut (s : State) : (s.dropSample).linkOut = s.linkOut := rfl
@[simp] theorem dropSample_dlen (s : State) : (s.dropSample).dlen = s.dlen := rfl
@[simp] theorem dropSample_phase (s : State) : (s.dropSample).phase = s.phase := rfl
@[simp] theorem dropSample_link (s : State) : (s.dropSample).link = s.link := rfl
@[simp] theorem dropSample_classify (s : State) : (s.dropSample).classify = s.classify := rfl
@[simp] theorem dropSample_counterAfterTick (s : State) : counterAfterTick (s.dropSample) = counterAfterTick s := rfl
@[simp] theorem dropSample_lostAfterTick (s : State) : lostAfterTick (s.dropSample) = lostAfterTick s := rfl

/-! ## `emitFrame` -/

@[simp] theorem emitFrame_cfg (s : State) (payload : List Byte) : (s.emitFrame payload).cfg = s.cfg := rfl
@[simp] theorem emitFrame_escPending (s : State) (payload : List Byte) : (s.emitFrame payload).escPending = s.escPending := rfl
@[simp] theorem emitFrame_pos (s : State) (payload : List Byte) : (s.emitFrame payload).pos = s.pos := rfl
@[simp] theorem emitFrame_lenHi (s : State) (payload : List Byte) : (s.emitFrame payload).lenHi = s.lenHi := rfl
@[simp] theorem emitFrame_lenLo (s : State) (payload : List Byte) : (s.emitFrame payload).lenLo = s.lenLo := rfl
@[simp] theorem emitFrame_csum (s : State) (payload : List Byte) : (s.emitFrame payload).csum = s.csum := rfl
@[simp] theorem emitFrame_buf (s : State) (payload : List Byte) : (s.emitFrame payload).buf = s.buf := rfl
@[simp] theorem emitFrame_sampleValid (s : State) (payload : List Byte) : (s.emitFrame payload).sampleValid = s.sampleValid := rfl
@[simp] theorem emitFrame_sample (s : State) (payload : List Byte) : (s.emitFrame payload).sample = s.sample := rfl
@[simp] theorem emitFrame_seenRecently (s : State) (payload : List Byte) : (s.emitFrame payload).seenRecently = s.seenRecently := rfl
@[simp] theorem emitFrame_lost (s : State) (payload : List Byte) : (s.emitFrame payload).lost = s.lost := rfl
@[simp] theorem emitFrame_everSeen (s : State) (payload : List Byte) : (s.emitFrame payload).everSeen = s.everSeen := rfl
@[simp] theorem emitFrame_counter (s : State) (payload : List Byte) : (s.emitFrame payload).counter = s.counter := rfl
@[simp] theorem emitFrame_stimulus (s : State) (payload : List Byte) : (s.emitFrame payload).stimulus = s.stimulus := rfl
@[simp] theorem emitFrame_result (s : State) (payload : List Byte) : (s.emitFrame payload).result = { s.result with frameOk := true, frame := some payload } := rfl
@[simp] theorem emitFrame_linkOut (s : State) (payload : List Byte) : (s.emitFrame payload).linkOut = s.linkOut := rfl
@[simp] theorem emitFrame_dlen (s : State) (payload : List Byte) : (s.emitFrame payload).dlen = s.dlen := rfl
@[simp] theorem emitFrame_phase (s : State) (payload : List Byte) : (s.emitFrame payload).phase = s.phase := rfl
@[simp] theorem emitFrame_link (s : State) (payload : List Byte) : (s.emitFrame payload).link = s.link := rfl
@[simp] theorem emitFrame_classify (s : State) (payload : List Byte) : (s.emitFrame payload).classify = s.classify := rfl
@[simp] theorem emitFrame_counterAfterTick (s : State) (payload : List Byte) : counterAfterTick (s.emitFrame payload) = counterAfterTick s := rfl
@[simp] theorem emitFrame_lostAfterTick (s : State) (payload : List Byte) : lostAfterTick (s.emitFrame payload) = lostAfterTick s := rfl
@[simp] theorem emitFrame_framePath (s : State) (payload : List Byte) : (s.emitFrame payload).framePath = s.framePath := rfl

/-! ## `emitSampleOk` -/

@[simp] theorem emitSampleOk_cfg (s : State) : (s.emitSampleOk).cfg = s.cfg := rfl
@[simp] theorem emitSampleOk_escPending (s : State) : (s.emitSampleOk).escPending = s.escPending := rfl
@[simp] theorem emitSampleOk_pos (s : State) : (s.emitSampleOk).pos = s.pos := rfl
@[simp] theorem emitSampleOk_lenHi (s : State) : (s.emitSampleOk).lenHi = s.lenHi := rfl
@[simp] theorem emitSampleOk_lenLo (s : State) : (s.emitSampleOk).lenLo = s.lenLo := rfl
@[simp] theorem emitSampleOk_csum (s : State) : (s.emitSampleOk).csum = s.csum := rfl
@[simp] theorem emitSampleOk_buf (s : State) : (s.emitSampleOk).buf = s.buf := rfl
@[simp] theorem emitSampleOk_sampleValid (s : State) : (s.emitSampleOk).sampleValid = s.sampleValid := rfl
@[simp] theorem emitSampleOk_sample (s : State) : (s.emitSampleOk).sample = s.sample := rfl
@[simp] theorem emitSampleOk_seenRecently (s : State) : (s.emitSampleOk).seenRecently = s.seenRecently := rfl
@[simp] theorem emitSampleOk_lost (s : State) : (s.emitSampleOk).lost = s.lost := rfl
@[simp] theorem emitSampleOk_everSeen (s : State) : (s.emitSampleOk).everSeen = s.everSeen := rfl
@[simp] theorem emitSampleOk_counter (s : State) : (s.emitSampleOk).counter = s.counter := rfl
@[simp] theorem emitSampleOk_stimulus (s : State) : (s.emitSampleOk).stimulus = s.stimulus := rfl
@[simp] theorem emitSampleOk_result (s : State) : (s.emitSampleOk).result = { s.result with sampleOk := true } := rfl
@[simp] theorem emitSampleOk_linkOut (s : State) : (s.emitSampleOk).linkOut = s.linkOut := rfl
@[simp] theorem emitSampleOk_dlen (s : State) : (s.emitSampleOk).dlen = s.dlen := rfl
@[simp] theorem emitSampleOk_phase (s : State) : (s.emitSampleOk).phase = s.phase := rfl
@[simp] theorem emitSampleOk_link (s : State) : (s.emitSampleOk).link = s.link := rfl
@[simp] theorem emitSampleOk_classify (s : State) : (s.emitSampleOk).classify = s.classify := rfl
@[simp] theorem emitSampleOk_counterAfterTick (s : State) : counterAfterTick (s.emitSampleOk) = counterAfterTick s := rfl
@[simp] theorem emitSampleOk_lostAfterTick (s : State) : lostAfterTick (s.emitSampleOk) = lostAfterTick s := rfl
@[simp] theorem emitSampleOk_framePath (s : State) : (s.emitSampleOk).framePath = s.framePath := rfl

/-! ## `emitErr` -/

@[simp] theorem emitErr_cfg (s : State) (e : ErrCode) (n : Nat) : (s.emitErr e n).cfg = s.cfg := rfl
@[simp] theorem emitErr_escPending (s : State) (e : ErrCode) (n : Nat) : (s.emitErr e n).escPending = s.escPending := rfl
@[simp] theorem emitErr_pos (s : State) (e : ErrCode) (n : Nat) : (s.emitErr e n).pos = s.pos := rfl
@[simp] theorem emitErr_lenHi (s : State) (e : ErrCode) (n : Nat) : (s.emitErr e n).lenHi = s.lenHi := rfl
@[simp] theorem emitErr_lenLo (s : State) (e : ErrCode) (n : Nat) : (s.emitErr e n).lenLo = s.lenLo := rfl
@[simp] theorem emitErr_csum (s : State) (e : ErrCode) (n : Nat) : (s.emitErr e n).csum = s.csum := rfl
@[simp] theorem emitErr_buf (s : State) (e : ErrCode) (n : Nat) : (s.emitErr e n).buf = s.buf := rfl
@[simp] theorem emitErr_sampleValid (s : State) (e : ErrCode) (n : Nat) : (s.emitErr e n).sampleValid = s.sampleValid := rfl
@[simp] theorem emitErr_sample (s : State) (e : ErrCode) (n : Nat) : (s.emitErr e n).sample = s.sample := rfl
@[simp] theorem emitErr_seenRecently (s : State) (e : ErrCode) (n : Nat) : (s.emitErr e n).seenRecently = s.seenRecently := rfl
@[simp] theorem emitErr_lost (s : State) (e : ErrCode) (n : Nat) : (s.emitErr e n).lost = s.lost := rfl
@[simp] theorem emitErr_everSeen (s : State) (e : ErrCode) (n : Nat) : (s.emitErr e n).everSeen = s.everSeen := rfl
@[simp] theorem emitErr_counter (s : State) (e : ErrCode) (n : Nat) : (s.emitErr e n).counter = s.counter := rfl
@[simp] theorem emitErr_stimulus (s : State) (e : ErrCode) (n : Nat) : (s.emitErr e n).stimulus = s.stimulus := rfl
@[simp] theorem emitErr_result (s : State) (e : ErrCode) (n : Nat) : (s.emitErr e n).result = { s.result with err := e, info := n } := rfl
@[simp] theorem emitErr_linkOut (s : State) (e : ErrCode) (n : Nat) : (s.emitErr e n).linkOut = s.linkOut := rfl
@[simp] theorem emitErr_dlen (s : State) (e : ErrCode) (n : Nat) : (s.emitErr e n).dlen = s.dlen := rfl
@[simp] theorem emitErr_phase (s : State) (e : ErrCode) (n : Nat) : (s.emitErr e n).phase = s.phase := rfl
@[simp] theorem emitErr_link (s : State) (e : ErrCode) (n : Nat) : (s.emitErr e n).link = s.link := rfl
@[simp] theorem emitErr_classify (s : State) (e : ErrCode) (n : Nat) : (s.emitErr e n).classify = s.classify := rfl
@[simp] theorem emitErr_counterAfterTick (s : State) (e : ErrCode) (n : Nat) : counterAfterTick (s.emitErr e n) = counterAfterTick s := rfl
@[simp] theorem emitErr_lostAfterTick (s : State) (e : ErrCode) (n : Nat) : lostAfterTick (s.emitErr e n) = lostAfterTick s := rfl
@[simp] theorem emitErr_framePath (s : State) (e : ErrCode) (n : Nat) : (s.emitErr e n).framePath = s.framePath := rfl

/-! ## `driveLink` -/

@[simp] theorem driveLink_cfg (s : State) (l : LinkState) : (s.driveLink l).cfg = s.cfg := rfl
@[simp] theorem driveLink_escPending (s : State) (l : LinkState) : (s.driveLink l).escPending = s.escPending := rfl
@[simp] theorem driveLink_pos (s : State) (l : LinkState) : (s.driveLink l).pos = s.pos := rfl
@[simp] theorem driveLink_lenHi (s : State) (l : LinkState) : (s.driveLink l).lenHi = s.lenHi := rfl
@[simp] theorem driveLink_lenLo (s : State) (l : LinkState) : (s.driveLink l).lenLo = s.lenLo := rfl
@[simp] theorem driveLink_csum (s : State) (l : LinkState) : (s.driveLink l).csum = s.csum := rfl
@[simp] theorem driveLink_buf (s : State) (l : LinkState) : (s.driveLink l).buf = s.buf := rfl
@[simp] theorem driveLink_sampleValid (s : State) (l : LinkState) : (s.driveLink l).sampleValid = s.sampleValid := rfl
@[simp] theorem driveLink_sample (s : State) (l : LinkState) : (s.driveLink l).sample = s.sample := rfl
@[simp] theorem driveLink_seenRecently (s : State) (l : LinkState) : (s.driveLink l).seenRecently = s.seenRecently := rfl
@[simp] theorem driveLink_lost (s : State) (l : LinkState) : (s.driveLink l).lost = s.lost := rfl
@[simp] theorem driveLink_everSeen (s : State) (l : LinkState) : (s.driveLink l).everSeen = s.everSeen := rfl
@[simp] theorem driveLink_counter (s : State) (l : LinkState) : (s.driveLink l).counter = s.counter := rfl
@[simp] theorem driveLink_stimulus (s : State) (l : LinkState) : (s.driveLink l).stimulus = s.stimulus := rfl
@[simp] theorem driveLink_result (s : State) (l : LinkState) : (s.driveLink l).result = s.result := rfl
@[simp] theorem driveLink_linkOut (s : State) (l : LinkState) : (s.driveLink l).linkOut = l := rfl
@[simp] theorem driveLink_dlen (s : State) (l : LinkState) : (s.driveLink l).dlen = s.dlen := rfl
@[simp] theorem driveLink_phase (s : State) (l : LinkState) : (s.driveLink l).phase = s.phase := rfl
@[simp] theorem driveLink_link (s : State) (l : LinkState) : (s.driveLink l).link = s.link := rfl
@[simp] theorem driveLink_classify (s : State) (l : LinkState) : (s.driveLink l).classify = s.classify := rfl
@[simp] theorem driveLink_counterAfterTick (s : State) (l : LinkState) : counterAfterTick (s.driveLink l) = counterAfterTick s := rfl
@[simp] theorem driveLink_lostAfterTick (s : State) (l : LinkState) : lostAfterTick (s.driveLink l) = lostAfterTick s := rfl
@[simp] theorem driveLink_framePath (s : State) (l : LinkState) : (s.driveLink l).framePath = s.framePath := rfl

/-! ## `linkReset` -/

@[simp] theorem linkReset_cfg (s : State) : (linkReset s).cfg = s.cfg := rfl
@[simp] theorem linkReset_escPending (s : State) : (linkReset s).escPending = s.escPending := rfl
@[simp] theorem linkReset_pos (s : State) : (linkReset s).pos = s.pos := rfl
@[simp] theorem linkReset_lenHi (s : State) : (linkReset s).lenHi = s.lenHi := rfl
@[simp] theorem linkReset_lenLo (s : State) : (linkReset s).lenLo = s.lenLo := rfl
@[simp] theorem linkReset_csum (s : State) : (linkReset s).csum = s.csum := rfl
@[simp] theorem linkReset_buf (s : State) : (linkReset s).buf = s.buf := rfl
@[simp] theorem linkReset_sampleValid (s : State) : (linkReset s).sampleValid = s.sampleValid := rfl
@[simp] theorem linkReset_sample (s : State) : (linkReset s).sample = s.sample := rfl
@[simp] theorem linkReset_seenRecently (s : State) : (linkReset s).seenRecently = false := rfl
@[simp] theorem linkReset_lost (s : State) : (linkReset s).lost = false := rfl
@[simp] theorem linkReset_everSeen (s : State) : (linkReset s).everSeen = false := rfl
@[simp] theorem linkReset_counter (s : State) : (linkReset s).counter = 0 := rfl
@[simp] theorem linkReset_stimulus (s : State) : (linkReset s).stimulus = s.stimulus := rfl
@[simp] theorem linkReset_result (s : State) : (linkReset s).result = s.result := rfl
@[simp] theorem linkReset_linkOut (s : State) : (linkReset s).linkOut = s.linkOut := rfl
@[simp] theorem linkReset_dlen (s : State) : (linkReset s).dlen = s.dlen := rfl
@[simp] theorem linkReset_phase (s : State) : (linkReset s).phase = s.phase := rfl
@[simp] theorem linkReset_framePath (s : State) : (linkReset s).framePath = s.framePath := rfl

/-! ## `linkArrival` -/

@[simp] theorem linkArrival_cfg (s : State) : (linkArrival s).cfg = s.cfg := rfl
@[simp] theorem linkArrival_escPending (s : State) : (linkArrival s).escPending = s.escPending := rfl
@[simp] theorem linkArrival_pos (s : State) : (linkArrival s).pos = s.pos := rfl
@[simp] theorem linkArrival_lenHi (s : State) : (linkArrival s).lenHi = s.lenHi := rfl
@[simp] theorem linkArrival_lenLo (s : State) : (linkArrival s).lenLo = s.lenLo := rfl
@[simp] theorem linkArrival_csum (s : State) : (linkArrival s).csum = s.csum := rfl
@[simp] theorem linkArrival_buf (s : State) : (linkArrival s).buf = s.buf := rfl
@[simp] theorem linkArrival_sampleValid (s : State) : (linkArrival s).sampleValid = s.sampleValid := rfl
@[simp] theorem linkArrival_sample (s : State) : (linkArrival s).sample = s.sample := rfl
@[simp] theorem linkArrival_seenRecently (s : State) : (linkArrival s).seenRecently = true := rfl
@[simp] theorem linkArrival_lost (s : State) : (linkArrival s).lost = false := rfl
@[simp] theorem linkArrival_everSeen (s : State) : (linkArrival s).everSeen = true := rfl
@[simp] theorem linkArrival_counter (s : State) : (linkArrival s).counter = 0 := rfl
@[simp] theorem linkArrival_stimulus (s : State) : (linkArrival s).stimulus = s.stimulus := rfl
@[simp] theorem linkArrival_result (s : State) : (linkArrival s).result = s.result := rfl
@[simp] theorem linkArrival_linkOut (s : State) : (linkArrival s).linkOut = s.linkOut := rfl
@[simp] theorem linkArrival_dlen (s : State) : (linkArrival s).dlen = s.dlen := rfl
@[simp] theorem linkArrival_phase (s : State) : (linkArrival s).phase = s.phase := rfl
@[simp] theorem linkArrival_framePath (s : State) : (linkArrival s).framePath = s.framePath := rfl

/-! ## `linkTick` -/

@[simp] theorem linkTick_cfg (s : State) : (linkTick s).cfg = s.cfg := rfl
@[simp] theorem linkTick_escPending (s : State) : (linkTick s).escPending = s.escPending := rfl
@[simp] theorem linkTick_pos (s : State) : (linkTick s).pos = s.pos := rfl
@[simp] theorem linkTick_lenHi (s : State) : (linkTick s).lenHi = s.lenHi := rfl
@[simp] theorem linkTick_lenLo (s : State) : (linkTick s).lenLo = s.lenLo := rfl
@[simp] theorem linkTick_csum (s : State) : (linkTick s).csum = s.csum := rfl
@[simp] theorem linkTick_buf (s : State) : (linkTick s).buf = s.buf := rfl
@[simp] theorem linkTick_sampleValid (s : State) : (linkTick s).sampleValid = s.sampleValid := rfl
@[simp] theorem linkTick_sample (s : State) : (linkTick s).sample = s.sample := rfl
@[simp] theorem linkTick_seenRecently (s : State) : (linkTick s).seenRecently = false := rfl
@[simp] theorem linkTick_lost (s : State) : (linkTick s).lost = lostAfterTick s := rfl
@[simp] theorem linkTick_everSeen (s : State) : (linkTick s).everSeen = s.everSeen := rfl
@[simp] theorem linkTick_counter (s : State) : (linkTick s).counter = counterAfterTick s := rfl
@[simp] theorem linkTick_stimulus (s : State) : (linkTick s).stimulus = s.stimulus := rfl
@[simp] theorem linkTick_result (s : State) : (linkTick s).result = s.result := rfl
@[simp] theorem linkTick_linkOut (s : State) : (linkTick s).linkOut = s.linkOut := rfl
@[simp] theorem linkTick_dlen (s : State) : (linkTick s).dlen = s.dlen := rfl
@[simp] theorem linkTick_phase (s : State) : (linkTick s).phase = s.phase := rfl
@[simp] theorem linkTick_framePath (s : State) : (linkTick s).framePath = s.framePath := rfl

/-! ## `begin` -/

@[simp] theorem begin_cfg (s : State) : (s.begin).cfg = s.cfg := rfl
@[simp] theorem begin_escPending (s : State) : (s.begin).escPending = s.escPending := rfl
@[simp] theorem begin_pos (s : State) : (s.begin).pos = s.pos := rfl
@[simp] theorem begin_lenHi (s : State) : (s.begin).lenHi = s.lenHi := rfl
@[simp] theorem begin_lenLo (s : State) : (s.begin).lenLo = s.lenLo := rfl
@[simp] theorem begin_csum (s : State) : (s.begin).csum = s.csum := rfl
@[simp] theorem begin_buf (s : State) : (s.begin).buf = s.buf := rfl
@[simp] theorem begin_sampleValid (s : State) : (s.begin).sampleValid = s.sampleValid := rfl
@[simp] theorem begin_sample (s : State) : (s.begin).sample = s.sample := rfl
@[simp] theorem begin_seenRecently (s : State) : (s.begin).seenRecently = s.seenRecently := rfl
@[simp] theorem begin_lost (s : State) : (s.begin).lost = s.lost := rfl
@[simp] theorem begin_everSeen (s : State) : (s.begin).everSeen = s.everSeen := rfl
@[simp] theorem begin_counter (s : State) : (s.begin).counter = s.counter := rfl
@[simp] theorem begin_stimulus (s : State) : (s.begin).stimulus = s.stimulus := rfl
@[simp] theorem begin_result (s : State) : (s.begin).result = Result.allClear := rfl
@[simp] theorem begin_linkOut (s : State) : (s.begin).linkOut = s.linkOut := rfl
@[simp] theorem begin_dlen (s : State) : (s.begin).dlen = s.dlen := rfl
@[simp] theorem begin_phase (s : State) : (s.begin).phase = s.phase := rfl
@[simp] theorem begin_link (s : State) : (s.begin).link = s.link := rfl
@[simp] theorem begin_classify (s : State) : (s.begin).classify = s.classify := rfl
@[simp] theorem begin_counterAfterTick (s : State) : counterAfterTick (s.begin) = counterAfterTick s := rfl
@[simp] theorem begin_lostAfterTick (s : State) : lostAfterTick (s.begin) = lostAfterTick s := rfl
@[simp] theorem begin_framePath (s : State) : (s.begin).framePath = s.framePath := rfl

/-! ## `withStimulus` -/

@[simp] theorem withStimulus_cfg (s : State) (es : List Event) : (s.withStimulus es).cfg = s.cfg := rfl
@[simp] theorem withStimulus_escPending (s : State) (es : List Event) : (s.withStimulus es).escPending = s.escPending := rfl
@[simp] theorem withStimulus_pos (s : State) (es : List Event) : (s.withStimulus es).pos = s.pos := rfl
@[simp] theorem withStimulus_lenHi (s : State) (es : List Event) : (s.withStimulus es).lenHi = s.lenHi := rfl
@[simp] theorem withStimulus_lenLo (s : State) (es : List Event) : (s.withStimulus es).lenLo = s.lenLo := rfl
@[simp] theorem withStimulus_csum (s : State) (es : List Event) : (s.withStimulus es).csum = s.csum := rfl
@[simp] theorem withStimulus_buf (s : State) (es : List Event) : (s.withStimulus es).buf = s.buf := rfl
@[simp] theorem withStimulus_sampleValid (s : State) (es : List Event) : (s.withStimulus es).sampleValid = s.sampleValid := rfl
@[simp] theorem withStimulus_sample (s : State) (es : List Event) : (s.withStimulus es).sample = s.sample := rfl
@[simp] theorem withStimulus_seenRecently (s : State) (es : List Event) : (s.withStimulus es).seenRecently = s.seenRecently := rfl
@[simp] theorem withStimulus_lost (s : State) (es : List Event) : (s.withStimulus es).lost = s.lost := rfl
@[simp] theorem withStimulus_everSeen (s : State) (es : List Event) : (s.withStimulus es).everSeen = s.everSeen := rfl
@[simp] theorem withStimulus_counter (s : State) (es : List Event) : (s.withStimulus es).counter = s.counter := rfl
@[simp] theorem withStimulus_stimulus (s : State) (es : List Event) : (s.withStimulus es).stimulus = es := rfl
@[simp] theorem withStimulus_result (s : State) (es : List Event) : (s.withStimulus es).result = s.result := rfl
@[simp] theorem withStimulus_linkOut (s : State) (es : List Event) : (s.withStimulus es).linkOut = s.linkOut := rfl
@[simp] theorem withStimulus_dlen (s : State) (es : List Event) : (s.withStimulus es).dlen = s.dlen := rfl
@[simp] theorem withStimulus_phase (s : State) (es : List Event) : (s.withStimulus es).phase = s.phase := rfl
@[simp] theorem withStimulus_link (s : State) (es : List Event) : (s.withStimulus es).link = s.link := rfl
@[simp] theorem withStimulus_classify (s : State) (es : List Event) : (s.withStimulus es).classify = s.classify := rfl
@[simp] theorem withStimulus_counterAfterTick (s : State) (es : List Event) : counterAfterTick (s.withStimulus es) = counterAfterTick s := rfl
@[simp] theorem withStimulus_lostAfterTick (s : State) (es : List Event) : lostAfterTick (s.withStimulus es) = lostAfterTick s := rfl
@[simp] theorem withStimulus_framePath (s : State) (es : List Event) : (s.withStimulus es).framePath = s.framePath := rfl

/-! ## Values after a cleared length -/

@[simp] theorem clear_dlen (s : State) : s.clear.dlen = 0 := by simp [State.dlen]
@[simp] theorem linkReset_classify (s : State) : (linkReset s).classify = .silent := rfl
@[simp] theorem linkArrival_classify (s : State) : (linkArrival s).classify = .working := rfl

/-! ## `raise` (R190): what no error touches -/

@[simp] theorem raise_cfg (e : ErrCode) (n : Nat) (s : State) : (raise e n s).cfg = s.cfg := by cases e <;> rfl
@[simp] theorem raise_escPending (e : ErrCode) (n : Nat) (s : State) : (raise e n s).escPending = s.escPending := by cases e <;> rfl
@[simp] theorem raise_sampleValid (e : ErrCode) (n : Nat) (s : State) : (raise e n s).sampleValid = s.sampleValid := by cases e <;> rfl
@[simp] theorem raise_sample (e : ErrCode) (n : Nat) (s : State) : (raise e n s).sample = s.sample := by cases e <;> rfl
@[simp] theorem raise_seenRecently (e : ErrCode) (n : Nat) (s : State) : (raise e n s).seenRecently = s.seenRecently := by cases e <;> rfl
@[simp] theorem raise_lost (e : ErrCode) (n : Nat) (s : State) : (raise e n s).lost = s.lost := by cases e <;> rfl
@[simp] theorem raise_everSeen (e : ErrCode) (n : Nat) (s : State) : (raise e n s).everSeen = s.everSeen := by cases e <;> rfl
@[simp] theorem raise_counter (e : ErrCode) (n : Nat) (s : State) : (raise e n s).counter = s.counter := by cases e <;> rfl
@[simp] theorem raise_stimulus (e : ErrCode) (n : Nat) (s : State) : (raise e n s).stimulus = s.stimulus := by cases e <;> rfl
@[simp] theorem raise_linkOut (e : ErrCode) (n : Nat) (s : State) : (raise e n s).linkOut = s.linkOut := by cases e <;> rfl
@[simp] theorem raise_link (e : ErrCode) (n : Nat) (s : State) : (raise e n s).link = s.link := by cases e <;> rfl
@[simp] theorem raise_classify (e : ErrCode) (n : Nat) (s : State) : (raise e n s).classify = s.classify := by cases e <;> rfl
@[simp] theorem raise_result (e : ErrCode) (n : Nat) (s : State) :
    (raise e n s).result = { s.result with err := e, info := n } := by cases e <;> rfl

/-! ## `decodeSample` (R120): what it never touches -/

@[simp] theorem decodeSample_cfg (payload : List Byte) (s : State) : (decodeSample payload s).cfg = s.cfg := by
  unfold decodeSample; split <;> rfl
@[simp] theorem decodeSample_escPending (payload : List Byte) (s : State) : (decodeSample payload s).escPending = s.escPending := by
  unfold decodeSample; split <;> rfl
@[simp] theorem decodeSample_pos (payload : List Byte) (s : State) : (decodeSample payload s).pos = s.pos := by
  unfold decodeSample; split <;> rfl
@[simp] theorem decodeSample_lenHi (payload : List Byte) (s : State) : (decodeSample payload s).lenHi = s.lenHi := by
  unfold decodeSample; split <;> rfl
@[simp] theorem decodeSample_lenLo (payload : List Byte) (s : State) : (decodeSample payload s).lenLo = s.lenLo := by
  unfold decodeSample; split <;> rfl
@[simp] theorem decodeSample_csum (payload : List Byte) (s : State) : (decodeSample payload s).csum = s.csum := by
  unfold decodeSample; split <;> rfl
@[simp] theorem decodeSample_buf (payload : List Byte) (s : State) : (decodeSample payload s).buf = s.buf := by
  unfold decodeSample; split <;> rfl
@[simp] theorem decodeSample_seenRecently (payload : List Byte) (s : State) : (decodeSample payload s).seenRecently = s.seenRecently := by
  unfold decodeSample; split <;> rfl
@[simp] theorem decodeSample_lost (payload : List Byte) (s : State) : (decodeSample payload s).lost = s.lost := by
  unfold decodeSample; split <;> rfl
@[simp] theorem decodeSample_everSeen (payload : List Byte) (s : State) : (decodeSample payload s).everSeen = s.everSeen := by
  unfold decodeSample; split <;> rfl
@[simp] theorem decodeSample_counter (payload : List Byte) (s : State) : (decodeSample payload s).counter = s.counter := by
  unfold decodeSample; split <;> rfl
@[simp] theorem decodeSample_stimulus (payload : List Byte) (s : State) : (decodeSample payload s).stimulus = s.stimulus := by
  unfold decodeSample; split <;> rfl
@[simp] theorem decodeSample_linkOut (payload : List Byte) (s : State) : (decodeSample payload s).linkOut = s.linkOut := by
  unfold decodeSample; split <;> rfl
@[simp] theorem decodeSample_link (payload : List Byte) (s : State) : (decodeSample payload s).link = s.link := by
  unfold decodeSample; split <;> rfl
@[simp] theorem decodeSample_classify (payload : List Byte) (s : State) : (decodeSample payload s).classify = s.classify := by
  unfold decodeSample; split <;> rfl

end Sys2Proof.Machine
end

