-- ==== Sys2Proof/Laws/Ops.lean ====
section
/-! SUPPORT. For each shared operation, what it can do if it answers a next state; cited instead of unfolding it. -/

namespace Sys2Proof.Machine

/-! ## Sequencing and guards -/

@[simp] theorem andThen_next (s : State) (f : State → Answer) : andThen (.next s) f = f s := rfl
@[simp] theorem andThen_fault (r : Fault) (f : State → Answer) : andThen (.fault r) f = .fault r := rfl
@[simp] theorem andThen_refused (r : Refusal) (f : State → Answer) : andThen (.refused r) f = .refused r := rfl

theorem andThen_eq_next_iff (o : Answer) (f : State → Answer) (t : State) :
    andThen o f = .next t ↔ ∃ s, o = .next s ∧ f s = .next t := by
  cases o <;> simp

theorem andThen_assoc (o : Answer) (f g : State → Answer) :
    andThen (andThen o f) g = andThen o fun s => andThen (f s) g := by
  cases o <;> rfl

theorem requires_eq_next_iff (ok : Bool) (mn : String) (o : Answer) (t : State) :
    requires ok mn o = .next t ↔ ok = true ∧ o = .next t := by
  cases ok <;> simp [requires]

theorem requires_next_eq_next_iff (ok : Bool) (mn : String) (u t : State) :
    requires ok mn (.next u) = .next t ↔ ok = true ∧ t = u := by
  cases ok <;> simp [requires, eq_comm]

theorem requires_of_true (mn : String) (o : Answer) : requires true mn o = o := rfl

/-! ## The payload buffer -/

theorem memWrite_eq_next_iff (a : Nat) (v : Byte) (s t : State) :
    memWrite a v s = .next t ↔ a + 4 ≤ s.cfg.maxFrame ∧ t = { s with buf := s.buf.write a v } := by
  unfold memWrite
  split <;> simp_all [eq_comm]

theorem memRead_eq_ok_iff (a n : Nat) (s : State) (vs : List Byte) :
    memRead a n s = .ok vs ↔
      vs.length = n ∧ ∀ i (h : i < vs.length), s.buf.lookup (a + i) = some vs[i] := by
  rw [← Memory.readRange_ok_iff]
  unfold memRead
  cases h : s.buf.readRange a n <;> simp

/-! ## Raising an error (R190) -/

theorem raise_noStart (n : Nat) (s : State) :
    raise .noStart n s = { s with result := { s.result with err := .noStart, info := n } } := rfl

theorem raise_unexpectedStart (n : Nat) (s : State) :
    raise .unexpectedStart n s = 
      { s with
        pos := 1
        lenHi := 0
        lenLo := 0
        csum := 0
        buf := []
        result := { s.result with err := .unexpectedStart, info := n } } := rfl

theorem raise_oversize (n : Nat) (s : State) :
    raise .oversize n s = 
      { s with
        pos := 0
        lenHi := 0
        lenLo := 0
        csum := 0
        buf := []
        result := { s.result with err := .oversize, info := n } } := rfl

theorem raise_checksum (n : Nat) (s : State) :
    raise .checksum n s = 
      { s with
        pos := 0
        lenHi := 0
        lenLo := 0
        csum := 0
        buf := []
        result := { s.result with err := .checksum, info := n } } := rfl

theorem raise_truncated (n : Nat) (s : State) :
    raise .truncated n s = { s with result := { s.result with err := .truncated, info := n } } := rfl

/-! ## The SampleDecoder: both outcomes -/

theorem decodeSample_short (payload : List Byte) (s : State) (h : payload.length < s.cfg.minPayloadLen) :
    decodeSample payload s =
      { s with result := { s.result with err := .truncated, info := payload.length } } := by
  simp [decodeSample, h, raise_truncated]

theorem decodeSample_long (payload : List Byte) (s : State) (h : s.cfg.minPayloadLen ≤ payload.length) :
    decodeSample payload s =
      { s with
        sample := some (Sample.ofPayload s.cfg.fieldBase payload)
        sampleValid := true
        result := { s.result with sampleOk := true } } := by
  simp [decodeSample, Nat.not_lt.2 h, State.storeSample, State.emitSampleOk]

/-! ## The phase a position selects (R68) -/

theorem phaseOf_eq_awaitStart_iff (m p d : Nat) : phaseOf m p d = .awaitStart ↔ p = 0 := by
  unfold phaseOf
  repeat' split
  all_goals simp_all

/-- Once the length is complete, the phase is decided by the bound and the declared length. -/
theorem phaseOf_of_three_le {m p d : Nat} (h : 3 ≤ p) :
    phaseOf m p d = if m ≤ p then .overflow else if p < d + 3 then .payload else .checksum := by
  unfold phaseOf
  rw [if_neg (by omega), if_neg (by omega), if_neg (by omega)]

/-! ## The FrameAssembler's operations: if one answers a next state, then … -/

theorem execAStart_next {e : Bool} {s t : State} (h : execAStart e s = .next t) :
    s.pos = 0 ∧ t = s.setPos 1 := by
  simpa [execAStart, requires_next_eq_next_iff] using h

theorem execANostart_next {e : Bool} {v : Byte} {s t : State} (h : execANostart e v s = .next t) :
    s.pos = 0 ∧ v ≠ startMarker ∧ t = raise .noStart v.toNat s := by
  simpa [execANostart, requires_next_eq_next_iff, and_assoc] using h

theorem execAResync_next {s t : State} (h : execAResync s = .next t) :
    1 ≤ s.pos ∧ t = raise .unexpectedStart s.pos s := by
  simpa [execAResync, requires_next_eq_next_iff] using h

theorem execALenhi_next {e : Bool} {v : Byte} {s t : State} (h : execALenhi e v s = .next t) :
    s.pos = 1 ∧ notFreshStart e v = true ∧ t = (s.setLenHi v).setPos 2 := by
  simpa [execALenhi, requires_next_eq_next_iff, and_assoc] using h

theorem execALenlo_next {e : Bool} {v : Byte} {s t : State} (h : execALenlo e v s = .next t) :
    s.pos = 2 ∧ notFreshStart e v = true ∧ t = (s.setLenLo v).setPos 3 := by
  simpa [execALenlo, requires_next_eq_next_iff, and_assoc] using h

theorem execAOversize_next {e : Bool} {v : Byte} {s t : State} (h : execAOversize e v s = .next t) :
    3 ≤ s.pos ∧ s.cfg.maxFrame ≤ s.pos ∧ notFreshStart e v = true ∧ t = raise .oversize s.dlen s := by
  simpa [execAOversize, requires_next_eq_next_iff, and_assoc] using h

theorem execAData_next {e : Bool} {v : Byte} {s t : State} (h : execAData e v s = .next t) :
    3 ≤ s.pos ∧ s.pos < s.cfg.maxFrame ∧ s.pos < s.dlen + 3 ∧ notFreshStart e v = true ∧
      t = { s with buf := s.buf.write (s.pos - 3) v, csum := s.csum + v, pos := s.pos + 1 } := by
  simp only [execAData, requires_eq_next_iff, Bool.and_eq_true, decide_eq_true_eq, andThen_eq_next_iff,
    memWrite_eq_next_iff] at h
  obtain ⟨⟨⟨⟨h1, h2⟩, h3⟩, h4⟩, u, ⟨-, rfl⟩, ht⟩ := h
  exact ⟨h1, h2, h3, h4, (Host.Outcome.next.inj ht).symm⟩

/-- `A.CSUM`: either the sum is valid, the buffer held the payload and the frame was routed, or the sum is not. -/
theorem execACsum_next {e : Bool} {v : Byte} {s t : State} (h : execACsum e v s = .next t) :
    (3 ≤ s.pos ∧ s.pos < s.cfg.maxFrame ∧ s.pos = s.dlen + 3 ∧ notFreshStart e v = true) ∧
      ((s.csum + v = csumOk ∧ ∃ payload, memRead 0 s.dlen s = .ok payload ∧
          t = (decodeSample payload (linkArrival (s.emitFrame payload))).clear) ∨
        (s.csum + v ≠ csumOk ∧ t = raise .checksum (s.csum + v).toNat s)) := by
  obtain ⟨hg, h⟩ := (requires_eq_next_iff _ _ _ _).1 h
  simp only [Bool.and_eq_true, decide_eq_true_eq, beq_iff_eq] at hg
  obtain ⟨⟨⟨h1, h2⟩, h3⟩, h4⟩ := hg
  refine ⟨⟨h1, h2, h3, h4⟩, ?_⟩
  by_cases hs : csumAfter s.csum v = csumOk
  · rw [if_pos hs] at h
    split at h
    · rename_i payload hp
      exact .inl ⟨hs, payload, hp, (Host.Outcome.next.inj h).symm⟩
    · cases h
  · rw [if_neg hs] at h
    exact .inr ⟨hs, (Host.Outcome.next.inj h).symm⟩

/-! ## The ByteDescrambler's operations -/

theorem execDEsc_next {s t : State} (h : execDEsc s = .next t) : s.escPending = false ∧ t = s.setEsc true := by
  simpa [execDEsc, requires_next_eq_next_iff] using h

theorem execDUnesc_next {b : Byte} {s t : State} (h : execDUnesc b s = .next t) :
    s.escPending = true ∧ asmStep ⟨unescape b, true⟩ (s.setEsc false) = .next t := by
  simpa [execDUnesc, requires_eq_next_iff] using h

theorem execDLit_next {b : Byte} {s t : State} (h : execDLit b s = .next t) :
    s.escPending = false ∧ b ≠ escMarker ∧ asmStep ⟨b, false⟩ s = .next t := by
  simpa [execDLit, requires_eq_next_iff, and_assoc] using h

/-! ## Whole events -/

/-- What `perform` answers: the selected operation's next state, with the link output driven. -/
theorem perform_eq_next_iff (e : Event) (s t : State) :
    perform e s = .next t ↔ ∃ u, exec (s.selected e) s.begin = .next u ∧ t = u.driveLink u.classify := by
  refine (andThen_eq_next_iff _ _ _).trans (exists_congr fun u => and_congr_right fun _ => ?_)
  exact ⟨fun h => (Host.Outcome.next.inj h).symm, fun h => congrArg _ h.symm⟩

theorem selected_raw (s : State) (b : Byte) : s.selected (.raw b) = decodeRaw9 (tagged s.escPending b) := rfl
@[simp] theorem selected_tick (s : State) : s.selected .tick = .lTick := rfl
@[simp] theorem selected_lreset (s : State) : s.selected .lreset = .lReset := rfl
@[simp] theorem selected_reset (s : State) : s.selected .reset = .xReset := rfl

/-- A step takes the next event of the run and performs it. -/
theorem step_cons {s : State} {e : Event} {rest : List Event} (h : s.stimulus = e :: rest) :
    step s = perform e { s with stimulus := rest } := by
  simp [step, State.takeEvent, h]

/-- With no event left the block is idle. -/
theorem step_nil {s : State} (h : s.stimulus = []) : step s = .next s := by
  simp [step, State.takeEvent, h]

theorem performAll_append (es fs : List Event) (s : State) :
    performAll (es ++ fs) s = andThen (performAll es s) (performAll fs) := by
  induction es generalizing s with
  | nil => rfl
  | cons e es ih =>
    show andThen (perform e s) (performAll (es ++ fs)) = andThen (andThen (perform e s) (performAll es)) (performAll fs)
    rw [andThen_assoc]
    congr 1
    funext t
    exact ih t

end Sys2Proof.Machine
end

