-- ==== Sys2Proof/Laws/Events.lean ====
section
/-! SUPPORT. What one logical byte and one event can do, said once: an answer is one of the cases below. -/

namespace Sys2Proof.Machine

/-- What the FrameAssembler can do with a logical byte, one case per operation, both outcomes of `A.CSUM` apart. -/
inductive AsmEffect (lb : LogicalByte) (s : State) : State → Prop
  | start (hpos : s.pos = 0) (hv : lb.v = startMarker) : AsmEffect lb s (s.setPos 1)
  | nostart (hpos : s.pos = 0) (hv : lb.v ≠ startMarker) : AsmEffect lb s (raise .noStart lb.v.toNat s)
  | resync (hpos : 1 ≤ s.pos) (hv : lb.v = startMarker) (he : lb.escaped = false) :
      AsmEffect lb s (raise .unexpectedStart s.pos s)
  | lenhi (hpos : s.pos = 1) (hf : notFreshStart lb.escaped lb.v = true) :
      AsmEffect lb s ((s.setLenHi lb.v).setPos 2)
  | lenlo (hpos : s.pos = 2) (hf : notFreshStart lb.escaped lb.v = true) :
      AsmEffect lb s ((s.setLenLo lb.v).setPos 3)
  | oversize (hpos : 3 ≤ s.pos) (hmax : s.cfg.maxFrame ≤ s.pos) (hf : notFreshStart lb.escaped lb.v = true) :
      AsmEffect lb s (raise .oversize s.dlen s)
  | data (hpos : 3 ≤ s.pos) (hmax : s.pos < s.cfg.maxFrame) (hlen : s.pos < s.dlen + 3)
      (hf : notFreshStart lb.escaped lb.v = true) :
      AsmEffect lb s { s with buf := s.buf.write (s.pos - 3) lb.v, csum := s.csum + lb.v, pos := s.pos + 1 }
  | frame (payload : List Byte) (hpos : 3 ≤ s.pos) (hmax : s.pos < s.cfg.maxFrame) (hlen : s.pos = s.dlen + 3)
      (hf : notFreshStart lb.escaped lb.v = true) (hsum : s.csum + lb.v = csumOk)
      (hread : memRead 0 s.dlen s = .ok payload) :
      AsmEffect lb s (decodeSample payload (linkArrival (s.emitFrame payload))).clear
  | badSum (hpos : 3 ≤ s.pos) (hmax : s.pos < s.cfg.maxFrame) (hlen : s.pos = s.dlen + 3)
      (hf : notFreshStart lb.escaped lb.v = true) (hsum : s.csum + lb.v ≠ csumOk) :
      AsmEffect lb s (raise .checksum (s.csum + lb.v).toNat s)

/-- If the FrameAssembler answers a next state, it is one of these. -/
theorem asmStep_next {lb : LogicalByte} {s t : State} (h : asmStep lb s = .next t) : AsmEffect lb s t := by
  unfold asmStep at h
  split at h
  · obtain ⟨-, rfl⟩ := execAStart_next h
    rename_i hc
    exact .start hc.1 hc.2
  split at h
  · obtain ⟨hp, hv, rfl⟩ := execANostart_next h
    exact .nostart hp hv
  split at h
  · obtain ⟨hp, rfl⟩ := execAResync_next h
    rename_i hc
    exact .resync hp hc.1 hc.2
  split at h
  · obtain ⟨hp, hf, rfl⟩ := execALenhi_next h
    exact .lenhi hp hf
  split at h
  · obtain ⟨hp, hf, rfl⟩ := execALenlo_next h
    exact .lenlo hp hf
  split at h
  · obtain ⟨hp, hm, hf, rfl⟩ := execAOversize_next h
    exact .oversize hp hm hf
  split at h
  · obtain ⟨hp, hm, hl, hf, rfl⟩ := execAData_next h
    exact .data hp hm hl hf
  · obtain ⟨⟨hp, hm, hl, hf⟩, ⟨hs, payload, hr, rfl⟩ | ⟨hs, rfl⟩⟩ := execACsum_next h
    · exact .frame payload hp hm hl hf hs hr
    · exact .badSum hp hm hl hf hs

theorem setEsc_eq_self {s : State} {e : Bool} (h : s.escPending = e) : s.setEsc e = s := by
  subst h
  rfl

/-- If a raw byte's step answers a next state: an escape prefix was taken, or a logical byte was delivered. -/
theorem perform_raw_next {s t : State} {b : Byte} (h : perform (.raw b) s = .next t) :
    (descramble s.escPending b = (true, none) ∧ s.escPending = false ∧ b = escMarker ∧
        t = (s.begin.setEsc true).driveLink s.classify) ∨
      ∃ lb u, descramble s.escPending b = (false, some lb) ∧
        (lb = ⟨unescape b, true⟩ ∧ s.escPending = true ∨
          lb = ⟨b, false⟩ ∧ s.escPending = false ∧ b ≠ escMarker) ∧
        asmStep lb (s.begin.setEsc false) = .next u ∧ t = u.driveLink u.classify := by
  obtain ⟨u, hu, rfl⟩ := (perform_eq_next_iff _ _ _).1 h
  rw [selected_raw] at hu
  unfold decodeRaw9 at hu
  simp only [tagOf_tagged, octetOf_tagged] at hu
  split at hu
  · rename_i he
    obtain ⟨-, ha⟩ := execDUnesc_next hu
    exact .inr ⟨_, u, by simp [descramble, he], .inl ⟨rfl, he⟩, ha, rfl⟩
  · rename_i he
    have he : s.escPending = false := by simpa using he
    split at hu
    · rename_i hb
      obtain ⟨-, rfl⟩ := execDEsc_next hu
      exact .inl ⟨by simp [descramble, he, hb], he, hb, rfl⟩
    · rename_i hb
      obtain ⟨-, -, ha⟩ := execDLit_next hu
      refine .inr ⟨_, u, by simp [descramble, he, hb], .inr ⟨rfl, he, hb⟩, ?_, rfl⟩
      rwa [setEsc_eq_self (by simpa using he)]

/-! ## The operations a run selects -/

@[simp] theorem deliveredBy_dEsc : deliveredBy .dEsc = none := rfl
@[simp] theorem deliveredBy_dUnesc (b : Byte) : deliveredBy (.dUnesc b) = some ⟨unescape b, true⟩ := rfl
@[simp] theorem deliveredBy_dLit (b : Byte) : deliveredBy (.dLit b) = some ⟨b, false⟩ := rfl

@[simp] theorem selections_nil (s : State) : selections [] s = [] := rfl

theorem selections_cons_of_next {e : Event} {s t : State} (es : List Event) (h : perform e s = .next t) :
    selections (e :: es) s = s.selected e :: selections es t := by
  simp [selections, h]

/-- The three events that are no raw byte: what each leaves. -/
theorem perform_tick (s : State) :
    perform .tick s = .next ((linkTick s.begin).driveLink (linkTick s.begin).classify) := rfl

theorem perform_lreset (s : State) : perform .lreset s = .next ((linkReset s.begin).driveLink .silent) := rfl

theorem perform_reset (s : State) : perform .reset s = .next ((resetBlock s.begin).driveLink .silent) := rfl

end Sys2Proof.Machine
end

