-- ==== Sys2Proof/Laws/Operands.lean ====
section
/-! SUPPORT. The multi-octet values as numbers (R71, R72), and as what their octets were taken from. -/

namespace Sys2Proof.Machine

/-- The value of a two-octet field, low octet first. -/
theorem le16_toNat (payload : List Byte) (i : Nat) :
    (le16 payload i).toNat = (octetAt payload i).toNat + 256 * (octetAt payload (i + 1)).toNat := by
  have hlt := (octetAt payload i).isLt
  have h : (le16 payload i).toNat = _ := BitVec.toNat_append (octetAt payload (i + 1)) (octetAt payload i)
  rw [h, ← Nat.shiftLeft_add_eq_or_of_lt hlt, Nat.shiftLeft_eq]
  omega

/-- The value of a four-octet field, least significant octet first. -/
theorem le32_toNat (payload : List Byte) (i : Nat) :
    (le32 payload i).toNat = (octetAt payload i).toNat + 256 * (octetAt payload (i + 1)).toNat
      + 65536 * (octetAt payload (i + 2)).toNat + 16777216 * (octetAt payload (i + 3)).toNat := by
  have hlt := (le16 payload i).isLt
  have h : (le32 payload i).toNat = _ := BitVec.toNat_append (le16 payload (i + 2)) (le16 payload i)
  have h1 := le16_toNat payload i
  have h2 : (le16 payload (i + 2)).toNat = (octetAt payload (i + 2)).toNat + 256 * (octetAt payload (i + 3)).toNat :=
    le16_toNat payload (i + 2)
  rw [h, ← Nat.shiftLeft_add_eq_or_of_lt hlt, Nat.shiftLeft_eq]
  omega

/-- A two-octet field is the value whose low and high octets stand there. -/
theorem le16_eq {payload : List Byte} {i : Nat} {r : BitVec 16}
    (hlo : octetAt payload i = r.extractLsb' 0 8) (hhi : octetAt payload (i + 1) = r.extractLsb' 8 8) :
    le16 payload i = r := by
  apply BitVec.eq_of_toNat_eq
  have hr := r.isLt
  rw [le16_toNat, hlo, hhi, BitVec.extractLsb'_toNat, BitVec.extractLsb'_toNat, Nat.shiftRight_eq_div_pow,
    Nat.shiftRight_eq_div_pow]
  omega

/-- A four-octet field is the value whose low and high halves stand there. -/
theorem le32_eq {payload : List Byte} {i : Nat} {r : BitVec 32}
    (hlo : le16 payload i = r.extractLsb' 0 16) (hhi : le16 payload (i + 2) = r.extractLsb' 16 16) :
    le32 payload i = r := by
  apply BitVec.eq_of_toNat_eq
  have hr := r.isLt
  have h : (le32 payload i).toNat = _ := BitVec.toNat_append (le16 payload (i + 2)) (le16 payload i)
  have hlt := (le16 payload i).isLt
  rw [h, ← Nat.shiftLeft_add_eq_or_of_lt hlt, Nat.shiftLeft_eq, hlo, hhi, BitVec.extractLsb'_toNat,
    BitVec.extractLsb'_toNat, Nat.shiftRight_eq_div_pow, Nat.shiftRight_eq_div_pow]
  omega

end Sys2Proof.Machine
end

