-- ==== Sys2Proof/Laws/PerInstr.lean ====
section
/-! SUPPORT. Statements made per operation. `TableRow`: the key the encoder writes fits the operation's row of
spec/opcode_table.json. -/

namespace Sys2Proof.Laws

/-- The tag's mask 0x100 keeps the tag alone. -/
theorem tagged_and_tagMask (e : Bool) (v : Byte) : tagged e v &&& 0x100 = tagged e 0 := by
  apply BitVec.eq_of_getLsbD_eq
  intro i hi
  have hmask : ∀ i : Fin 9, (0x100 : BitVec 9).getLsbD i = decide (i.val = 8) := by decide
  rw [BitVec.getLsbD_and, hmask ⟨i, hi⟩]
  unfold tagged
  rw [BitVec.getLsbD_append, BitVec.getLsbD_append]
  by_cases h8 : i < 8
  · rw [if_pos h8, if_pos h8, decide_eq_false (by omega : ¬i = 8)]
    simp
  · rw [if_neg h8, if_neg h8, decide_eq_true (by omega : i = 8)]
    simp

/-- The octet's mask 0x0FF keeps the octet alone. -/
theorem tagged_and_octetMask (e : Bool) (v : Byte) : tagged e v &&& 0x0FF = tagged false v := by
  apply BitVec.eq_of_getLsbD_eq
  intro i hi
  have hmask : ∀ i : Fin 9, (0x0FF : BitVec 9).getLsbD i = decide (i.val < 8) := by decide
  rw [BitVec.getLsbD_and, hmask ⟨i, hi⟩]
  unfold tagged
  rw [BitVec.getLsbD_append, BitVec.getLsbD_append]
  by_cases h8 : i < 8
  · rw [if_pos h8, if_pos h8, decide_eq_true h8]
    simp
  · rw [if_neg h8, if_neg h8, decide_eq_false h8]
    simp

/-- An operation's key fits its own row of the table: format, and the row's fixed bits. -/
def TableRow.Statement (i : Instr) : Prop := i.wellFormed = true → (encode i).fits i.row = true

/-- A row without fixed bits is fitted by every word. -/
theorem fits_lb_of_free (ph : Phase) (w : BitVec 9) : (Key.lb ph w).fits ⟨.lb, 0, 0⟩ = true := by
  simp [Key.fits]

theorem TableRow.dEsc : TableRow.Statement .dEsc := fun _ => by decide

theorem TableRow.dUnesc (b : Byte) : TableRow.Statement (.dUnesc b) := fun _ => by
  simp only [encode, Instr.row, Key.fits, tagged_and_tagMask]
  decide

theorem TableRow.dLit (b : Byte) : TableRow.Statement (.dLit b) := fun _ => by
  simp only [encode, Instr.row, Key.fits, tagged_and_tagMask]
  decide

theorem TableRow.aStart (escaped : Bool) : TableRow.Statement (.aStart escaped) := fun _ => by
  simp only [encode, Instr.row, Key.fits, tagged_and_octetMask]
  decide

theorem TableRow.aNostart (escaped : Bool) (v : Byte) : TableRow.Statement (.aNostart escaped v) :=
  fun _ => fits_lb_of_free _ _

theorem TableRow.aResync : TableRow.Statement .aResync := fun _ => by decide

theorem TableRow.aLenhi (escaped : Bool) (v : Byte) : TableRow.Statement (.aLenhi escaped v) :=
  fun _ => fits_lb_of_free _ _

theorem TableRow.aLenlo (escaped : Bool) (v : Byte) : TableRow.Statement (.aLenlo escaped v) :=
  fun _ => fits_lb_of_free _ _

theorem TableRow.aOversize (escaped : Bool) (v : Byte) : TableRow.Statement (.aOversize escaped v) :=
  fun _ => fits_lb_of_free _ _

theorem TableRow.aData (escaped : Bool) (v : Byte) : TableRow.Statement (.aData escaped v) :=
  fun _ => fits_lb_of_free _ _

theorem TableRow.aCsum (escaped : Bool) (v : Byte) : TableRow.Statement (.aCsum escaped v) :=
  fun _ => fits_lb_of_free _ _

theorem TableRow.sDecode (payload : List Byte) : TableRow.Statement (.sDecode payload) := fun _ => rfl

theorem TableRow.lArrival : TableRow.Statement .lArrival := fun _ => rfl

theorem TableRow.lTick : TableRow.Statement .lTick := fun _ => rfl

theorem TableRow.lReset : TableRow.Statement .lReset := fun _ => rfl

theorem TableRow.lClassify : TableRow.Statement .lClassify := fun _ => rfl

theorem TableRow.xReset : TableRow.Statement .xReset := fun _ => rfl

end Sys2Proof.Laws
end

