-- ==== Sys2Proof/Tests/Slice0.lean ====
section
/-! SUPPORT. Tests: refusals by the well-formedness checks, words written out from the encodings of 30_encoding.md,
single steps from the vectors of 95_test_vectors.md (their names V-… stand in the comments), and for every statement with
hypotheses a state and operands that meet them. -/

namespace Sys2Proof.Tests

open Sys2Proof Sys2Proof.Machine

/-! ## Helpers -/

/-- The next state of an answer. -/
def nextOf : Answer → Option State
  | .next s => some s
  | .fault _ => none
  | .refused _ => none

/-- The fault of an answer. -/
def faultOf : Answer → Option Fault
  | .next _ => none
  | .fault r => some r
  | .refused _ => none

/-- The refusal of an answer. -/
def refusalOf : Answer → Option Refusal
  | .next _ => none
  | .fault _ => none
  | .refused r => some r

/-- The reset state in the configuration `MAX_FRAME = 8`. -/
def small : State := State.resetOf { Config.reference with maxFrame := 8 }

/-- An attempt of declared length `dlen` below 256 with `octets` taken. -/
def openAt (s : State) (dlen : Nat) (octets : List Byte) : State :=
  { s with
    pos := 3 + octets.length
    lenLo := BitVec.ofNat 8 dlen
    csum := octetSum octets
    buf := (List.range octets.length).zip octets }

/-- The start state of the V-D vectors. -/
def dStart (esc : Bool) : State := { openAt State.reset 200 [] with escPending := esc }

/-- A state with the LinkWatcher's registers given. -/
def linkAt (seen lost ever : Bool) (counter : Nat) : State :=
  { State.reset with seenRecently := seen, lost := lost, everSeen := ever, counter := counter }

/-- The LinkWatcher's registers after an operation. -/
def linkAfter (i : Instr) (s : State) : Option LinkRegisters := (nextOf (exec i s)).map State.link

/-- The payload of V-X1. -/
def extremePayload : List Byte :=
  List.replicate 21 0 ++ [0x01, 0x02] ++
    [0xFF, 0x7F, 0xFF, 0x80, 0x00, 0x80, 0xFF, 0xFF, 0x00, 0x00, 0x00, 0x00, 0x00, 0x80, 0x01, 0x00, 0xFF, 0x7F, 0xFF,
      0x00, 0x3C, 0x07, 0xFF, 0x0D, 0x20]

/-! ## WellFormed: each check refuses an ill-formed term -/

theorem test_illFormed_dLit : (Instr.dLit 0x7D).wellFormed = false := by decide
theorem test_illFormed_aNostart : (Instr.aNostart true 0x7E).wellFormed = false := by decide
theorem test_illFormed_aLenhi : (Instr.aLenhi false 0x7E).wellFormed = false := by decide
theorem test_illFormed_aLenlo : (Instr.aLenlo false 0x7E).wellFormed = false := by decide
theorem test_illFormed_aOversize : (Instr.aOversize false 0x7E).wellFormed = false := by decide
theorem test_illFormed_aData : (Instr.aData false 0x7E).wellFormed = false := by decide
theorem test_illFormed_aCsum : (Instr.aCsum false 0x7E).wellFormed = false := by decide
theorem test_illFormed_sDecode : (Instr.sDecode (List.replicate 65536 0)).wellFormed = false := by
  show decide ((List.replicate 65536 (0 : Byte)).length ≤ 65535) = false
  rw [List.length_replicate]
  decide
theorem test_wellFormed_escapedStartMarker : (Instr.aData true 0x7E).wellFormed = true := by decide
theorem test_invalid_maxFrame_small : ¬({ Config.reference with maxFrame := 3 } : Config).Valid := by decide
theorem test_invalid_maxFrame_large : ¬({ Config.reference with maxFrame := 65540 } : Config).Valid := by decide
theorem test_invalid_graceTicks : ¬({ Config.reference with graceTicks := 19 } : Config).Valid := by decide
theorem test_valid_reference : Config.reference.Valid ∧ Config.reference.minPayloadLen = 48 := by decide

/-! ## Decode: words written out bit by bit, one for every constructor (R61, R68, R69) -/

theorem test_decode_dEsc : decode (.raw9 0b001111101) = .dEsc := by decide
theorem test_decode_dUnesc : decode (.raw9 0b101011110) = .dUnesc 0x5E := by decide
theorem test_decode_dUnesc_escMarker : decode (.raw9 0b101111101) = .dUnesc 0x7D := by decide
theorem test_decode_dLit : decode (.raw9 0b001000001) = .dLit 0x41 := by decide
theorem test_decode_aStart : decode (.lb .awaitStart 0b001111110) = .aStart false := by decide
theorem test_decode_aNostart : decode (.lb .awaitStart 0b101011110) = .aNostart true 0x5E := by decide
theorem test_decode_aResync : decode (.lb .overflow 0b001111110) = .aResync := by decide
theorem test_decode_aLenhi : decode (.lb .readLengthHigh 0b101111110) = .aLenhi true 0x7E := by decide
theorem test_decode_aLenlo : decode (.lb .readLengthLow 0b000110000) = .aLenlo false 0x30 := by decide
theorem test_decode_aOversize : decode (.lb .overflow 0b000000110) = .aOversize false 0x06 := by decide
theorem test_decode_aData : decode (.lb .payload 0b011111111) = .aData false 0xFF := by decide
theorem test_decode_aCsum : decode (.lb .checksum 0b010000000) = .aCsum false 0x80 := by decide
theorem test_decode_sDecode : decode (.framePayload [0x01]) = .sDecode [0x01] := by decide
theorem test_decode_lArrival : decode .frameArrival = .lArrival := by decide
theorem test_decode_lTick : decode .tick = .lTick := by decide
theorem test_decode_lReset : decode .lreset = .lReset := by decide
theorem test_decode_lClassify : decode .linkOutput = .lClassify := by decide
theorem test_decode_xReset : decode .reset = .xReset := by decide

theorem test_decodeBytes_tooShort : decodeBytes [0x7D] = .error .tooShort := by decide
theorem test_decodeBytes_bitsAbove : decodeBytes [0x7D, 0x02] = .error .bitsAboveWord := by decide
theorem test_decodeBytes_trailing : decodeBytes [0x7D, 0x00, 0x00] = .error .trailingBytes := by decide
theorem test_decodeTableWord : decodeTableWord 16 0x7D = some .dEsc ∧ decodeTableWord 16 0x15E = some (.dUnesc 0x5E) ∧
    decodeTableWord 16 0x200 = none := by decide

/-! ## One step of each operation -/

/-- V-D1. -/
theorem test_dEsc : nextOf (exec .dEsc (dStart false)) = some (dStart true) := by decide
/-- V-D6: no resync. -/
theorem test_dUnesc_startMarker : nextOf (exec (.dUnesc 0x5E) (dStart true)) = some (openAt State.reset 200 [0x7E]) := by
  decide
/-- V-D12. -/
theorem test_dUnesc : nextOf (exec (.dUnesc 0x31) (dStart true)) = some (openAt State.reset 200 [0x11]) := by decide
/-- V-D5. -/
theorem test_dLit : nextOf (exec (.dLit 0xFF) (dStart false)) = some (openAt State.reset 200 [0xFF]) := by decide
/-- V-D2: a literal start marker reaches `A.RESYNC`. -/
theorem test_dLit_resync : (nextOf (exec (.dLit 0x7E) (dStart false))).map (fun s => (s.pos, s.result.err, s.result.info)) =
    some (1, .unexpectedStart, 3) := by decide
/-- V-A1, V-A2. -/
theorem test_aStart : ∀ e, nextOf (exec (.aStart e) State.reset) = some { State.reset with pos := 1 } := by decide
/-- V-A3. -/
theorem test_aNostart : nextOf (exec (.aNostart false 0x41) State.reset) =
    some { State.reset with result := ⟨false, none, false, .noStart, 0x41⟩ } := by decide
/-- V-A8. -/
theorem test_aResync : nextOf (exec .aResync (openAt State.reset 10 [0x03, 0x10, 0x10, 0x10])) =
    some { State.reset with pos := 1, result := ⟨false, none, false, .unexpectedStart, 7⟩ } := by decide
/-- V-A18: wins over `A.OVERSIZE`. -/
theorem test_aResync_atBound : decode ((openAt small 10 [1, 2, 3, 4, 5]).lbKey ⟨0x7E, false⟩) = .aResync := by decide
/-- V-A6. -/
theorem test_aLenhi : nextOf (exec (.aLenhi true 0x7E) { State.reset with pos := 1 }) =
    some { State.reset with pos := 2, lenHi := 0x7E } := by decide
/-- V-A7. -/
theorem test_aLenlo : (nextOf (exec (.aLenlo false 0x30) { State.reset with pos := 2 })).map
    (fun s => (s.pos, s.lenLo, s.dlen)) = some (3, 0x30, 48) := by decide
/-- V-A17. -/
theorem test_aOversize : nextOf (exec (.aOversize false 0x06) (openAt small 10 [1, 2, 3, 4, 5])) =
    some { small with result := ⟨false, none, false, .oversize, 10⟩ } := by decide
/-- V-A20: the byte would be the checksum of a frame of 9 bytes. -/
theorem test_aOversize_beforeChecksum :
    decode ((openAt small 5 [1, 2, 3, 4, 5]).lbKey ⟨0xF0, false⟩) = .aOversize false 0xF0 := by decide
/-- V-A11. -/
theorem test_aData : nextOf (exec (.aData false 0x01) (openAt State.reset 2 [])) = some (openAt State.reset 2 [0x01]) := by
  decide
/-- V-A12: the sum wraps. -/
theorem test_aData_wraps : (nextOf (exec (.aData false 0xFF) (openAt State.reset 2 [0xFF]))).map
    (fun s => (s.csum, s.pos, s.buf.lookup 1)) = some (0xFE, 5, some 0xFF) := by decide
/-- V-A10: an escaped start marker as the checksum. -/
theorem test_aCsum_valid : nextOf (exec (.aCsum true 0x7E) (openAt State.reset 1 [0x81])) =
    some { linkAt true false true 0 with result := ⟨true, some [0x81], false, .truncated, 1⟩ } := by decide
/-- V-A14. -/
theorem test_aCsum_wrong : nextOf (exec (.aCsum false 0x81) (openAt State.reset 2 [0x01, 0x7E])) =
    some { State.reset with result := ⟨false, none, false, .checksum, 0⟩ } := by decide
/-- V-X1. -/
theorem test_sDecode : (nextOf (exec (.sDecode extremePayload) State.reset)).bind (fun s => s.sample.map fun x =>
      [hundredths x.batteryVoltage, hundredths x.tempPrimary, hundredths x.tempSecondary, pressureValue x.pressure,
        hundredths x.altitudeComputed, hundredths x.altitudeCorrected, x.chargeStatus.toNat, x.tsDay.toNat]) =
    some [32767, -32768, -1, -2147483648, 1, 32767, 128, 32] := by decide
/-- V-X4: 47 octets are too short. -/
theorem test_sDecode_short : nextOf (exec (.sDecode (List.replicate 47 0)) State.reset) =
    some { State.reset with result := ⟨false, none, false, .truncated, 47⟩ } := by decide
/-- V-L4. -/
theorem test_lArrival : linkAfter .lArrival (linkAt false true false 19) = some ⟨true, false, true, 0⟩ := by decide
/-- V-L6. -/
theorem test_lTick_afterArrival : linkAfter .lTick (linkAt true false true 0) = some ⟨false, false, true, 0⟩ := by decide
/-- V-L12. -/
theorem test_lTick_loss : linkAfter .lTick (linkAt false false true 18) = some ⟨false, true, true, 19⟩ := by decide
/-- V-L2. -/
theorem test_lReset : linkAfter .lReset (linkAt false true true 19) = some ⟨false, false, false, 0⟩ := by decide
/-- V-L8, V-L9: the grace window ends at 5. -/
theorem test_lClassify : (linkAt false false true 4).classify = .working ∧ (linkAt false false true 5).classify = .silent ∧
    (linkAt false true true 19).classify = .lost := by decide
/-- V-L13's state on the output. -/
theorem test_lClassify_output : (nextOf (exec .lClassify (linkAt false true true 19))).map State.linkOut = some .lost := by
  decide
/-- V-T1. -/
theorem test_xReset : nextOf (exec .xReset { openAt (linkAt false true true 19) 9 [0x21, 0x12] with escPending := true }) =
    some State.reset := by decide

/-! ## The step and the run -/

/-- V-T3. -/
theorem test_step_tick : (nextOf (step (State.reset.withStimulus [.tick]))).map (fun s => (s.counter, s.stimulus)) =
    some (1, []) := by decide
/-- V-T7. -/
theorem test_step_noise : nextOf (step (State.reset.withStimulus [.raw 0x00])) =
    some { State.reset with result := ⟨false, none, false, .noStart, 0⟩ } := by decide
theorem test_step_idle : nextOf (step State.reset) = some State.reset := by decide
/-- V-T6, as an opcode-table word. -/
theorem test_fetchWord : nextOf (step (State.reset.withFetchWord 16 0x7D)) = some { State.reset with escPending := true } := by
  decide
/-- The sender's escaping and checksum on the frame of V-D16 (R66, R67). -/
theorem test_frameOctets : frameOctets [0x01, 0x7E] (checksumOf [0x01, 0x7E]) = [0x7E, 0x00, 0x02, 0x01, 0x7D, 0x5E, 0x80] := by
  decide

/-! ## Hypotheses that can be met, one witness for each statement that has any -/

/-- The attempt of V-A13: at the checksum position, with the valid octet 0x80. -/
def atCsum : State := openAt State.reset 2 [0x01, 0x7E]

/-- An attempt at the bound `MAX_FRAME`. -/
def atBound : State := openAt small 10 [1, 2, 3, 4, 5]

theorem witness_DecodeOfEncodeGivesTheInstruction :
    (Instr.dLit 0x7E).wellFormed = true ∧ (Instr.aCsum true 0x7E).wellFormed = true ∧
      (Instr.sDecode []).wellFormed = true := by decide

theorem witness_EncodeOfDecodeGivesTheKey :
    decode (.raw9 0x17D) ≠ .aResync ∧ Phase.checksum ≠ Phase.awaitStart ∧ ([0x01] : List Byte).length ≤ 65535 := by decide

theorem witness_RawByteSelectsByEscapeThenValue :
    (dStart true).escPending = true ∧ (dStart false).escPending = false ∧ (0x7E : Byte) ≠ 0x7D := by decide

/-- One state for each clause, at the values of `pos` where the clauses meet. -/
theorem witness_LogicalByteGuardsSelectInOrder :
    (State.reset.pos = 0 ∧ (0x41 : Byte) ≠ 0x7E) ∧ 0 < ({ State.reset with pos := 1 } : State).pos ∧
    ({ State.reset with pos := 2 } : State).pos = 2 ∧ ¬((0x7E : Byte) = 0x7E ∧ true = false) ∧
    (3 ≤ atBound.pos ∧ atBound.cfg.maxFrame ≤ atBound.pos) ∧
    (3 ≤ (dStart false).pos ∧ (dStart false).pos < 256 ∧ (dStart false).pos < (dStart false).dlen + 3) ∧
    (3 ≤ atCsum.pos ∧ atCsum.pos < atCsum.cfg.maxFrame ∧ atCsum.pos = atCsum.dlen + 3) := by decide

theorem witness_BytesOfAWordDecodeToItsOperation : 1 < (0x02 : Byte).toNat := by decide

theorem witness_StepRunsTheSelectedOperation :
    (State.reset.withStimulus [.tick, .raw 0x7E]).stimulus = .tick :: [.raw 0x7E] := rfl

theorem witness_StepWithoutEventIsIdle : State.reset.stimulus = [] := rfl

theorem witness_FetchWordRunsTheDecodedOperation : decodeTableWord 16 0x15E = some (.dUnesc 0x5E) := by decide

theorem witness_EscapePrefixIsTaken : (dStart false).escPending = false := rfl

theorem witness_UnescapedByteIsDelivered : FrameInv (dStart true) ∧ (dStart true).escPending = true := by decide

theorem witness_LiteralByteIsDelivered :
    FrameInv (dStart false) ∧ (dStart false).escPending = false ∧ (0x7E : Byte) ≠ 0x7D := by decide

theorem witness_StartMarkerOpensAnAttempt : State.reset.pos = 0 := rfl

theorem witness_NoiseByteIsReported : State.reset.pos = 0 ∧ (0x7D : Byte) ≠ 0x7E := by decide

theorem witness_FreshStartMarkerResynchronises : 1 ≤ ({ State.reset with pos := 1 } : State).pos ∧ 1 ≤ atCsum.pos := by
  decide

theorem witness_HighLengthOctetIsTaken :
    ({ State.reset with pos := 1 } : State).pos = 1 ∧ ¬((0x7E : Byte) = 0x7E ∧ true = false) := by decide

theorem witness_LowLengthOctetIsTaken :
    ({ State.reset with pos := 2 } : State).pos = 2 ∧ ¬((0x30 : Byte) = 0x7E ∧ false = false) := by decide

theorem witness_OversizeAttemptIsAbandoned :
    3 ≤ atBound.pos ∧ atBound.cfg.maxFrame ≤ atBound.pos ∧ ¬((0x7E : Byte) = 0x7E ∧ true = false) := by decide

theorem witness_PayloadOctetIsStored :
    3 ≤ (dStart false).pos ∧ (dStart false).pos < (dStart false).cfg.maxFrame ∧
      (dStart false).pos < (dStart false).dlen + 3 ∧ ¬((0xFF : Byte) = 0x7E ∧ false = false) := by decide

theorem witness_ChecksumOctetFinishesTheFrame :
    atCsum.pos = atCsum.dlen + 3 ∧ atCsum.pos < atCsum.cfg.maxFrame ∧ ¬((0x80 : Byte) = 0x7E ∧ false = false) ∧
      ([0x01, 0x7E] : List Byte).length = atCsum.dlen ∧
      (∀ i, i < atCsum.dlen → atCsum.buf.lookup i = ([0x01, 0x7E] : List Byte)[i]?) ∧
      atCsum.csum + 0x80 = 0xFF ∧ atCsum.csum + 0x81 ≠ 0xFF := by decide

theorem witness_PayloadDecodesIntoTheSample :
    ([] : List Byte).length < State.reset.cfg.subhdrLen + State.reset.cfg.appPrefixLen + 25 ∧
      extremePayload.length = State.reset.cfg.subhdrLen + State.reset.cfg.appPrefixLen + 25 := by decide

theorem witness_SampleSurvivesEncodingAndDecoding :
    (List.replicate 23 (0 : Byte)).length = State.reset.cfg.subhdrLen + State.reset.cfg.appPrefixLen := by decide

theorem witness_TickAgesTheLink :
    (linkAt true false true 0).seenRecently = true ∧ (linkAt false false true 18).seenRecently = false := by decide

/-- One state for each clause, at the boundary of the grace window. -/
theorem witness_ClassifyTriesItsClausesInOrder :
    (linkAt true false true 0).seenRecently = true ∧
    ((linkAt false true true 19).seenRecently = false ∧ (linkAt false true true 19).lost = true) ∧
    ((linkAt false false true 4).everSeen = true ∧ (linkAt false false true 4).counter < Config.reference.graceTicks) ∧
    ((linkAt false false true 5).everSeen = true ∧ Config.reference.graceTicks ≤ (linkAt false false true 5).counter) ∧
    (linkAt false false false 0).everSeen = false := by decide

theorem witness_TicksAfterAnArrivalLoseTheLink : (linkAt true false true 0).link = ⟨true, false, true, 0⟩ := rfl

/-- A cycle whose raw byte completes a frame, with a tick, and one with all three lines. -/
theorem witness_SharedCycleArrivalWinsOverTickResetOverBoth :
    (nextOf (clockCycle ⟨false, true, 0x80, true, false⟩ atCsum)).isSome = true ∧
    (nextOf (clockCycle ⟨false, true, 0x80, true, true⟩ atCsum)).isSome = true ∧
    (nextOf (perform (.raw 0x80) atCsum)).map (fun u => u.result.frameOk) = some true := by decide

/-- A refusal for each way a `requires` line can fail, at the boundary of its range. -/
theorem witness_OperationsOffTheirGuardAreRefused :
    ([(.dEsc, dStart true), (.dUnesc 0x5E, dStart false), (.dLit 0x7D, dStart false), (.dLit 0x41, dStart true),
        (.aStart false, { State.reset with pos := 1 }), (.aNostart false 0x41, { State.reset with pos := 1 }),
        (.aNostart true 0x7E, State.reset), (.aResync, State.reset),
        (.aLenhi false 0x7E, { State.reset with pos := 1 }), (.aLenhi true 0x7E, { State.reset with pos := 2 }),
        (.aLenlo false 0x7E, { State.reset with pos := 2 }), (.aLenlo true 0x7E, { State.reset with pos := 1 }),
        (.aOversize false 0x7E, atBound), (.aOversize true 0x7E, { atBound with pos := 7 }),
        (.aOversize true 0x7E, { small with cfg := { small.cfg with maxFrame := 2 }, pos := 2 }),
        (.aData false 0x7E, dStart false), (.aData true 0x7E, { dStart false with pos := 2 }), (.aData true 0x7E, atBound),
        (.aData true 0x7E, atCsum), (.aCsum false 0x7E, atCsum), (.aCsum true 0x7E, dStart false),
        (.aCsum true 0x7E, openAt small 5 [1, 2, 3, 4, 5])] :
        List (Instr × State)).all (fun p => (refusalOf (exec p.1 p.2)).isSome) = true := by decide

/-- A raw byte's step that answers a next state, reporting each of the errors, a frame, and nothing. -/
theorem witness_rawSteps :
    ([(State.reset, 0x00), (atCsum, 0x7E), (atBound, 0x06), (atCsum, 0x81), (atCsum, 0x80), (dStart false, 0x7D)] :
        List (State × Byte)).map (fun p => (nextOf (perform (.raw p.2) p.1)).map fun t => (t.result.frameOk, t.result.err)) =
      [some (false, .noStart), some (false, .unexpectedStart), some (false, .oversize), some (false, .checksum),
        some (true, .truncated), some (false, .none)] := by decide

/-- A step that is no `RAW`, and the start marker seen at `MAX_FRAME`, the end of its range (V-A18). -/
theorem witness_ResultsAreTheSevenOfTheRule :
    ((nextOf (perform .tick State.reset)).isSome = true ∧ ∀ b, Event.tick ≠ .raw b) ∧
    (FrameInv atBound ∧ (nextOf (perform (.raw 0x7E) atBound)).map (fun t => (t.result.err, t.result.info)) =
      some (.unexpectedStart, atBound.cfg.maxFrame)) := by
  exact ⟨⟨by decide, fun _ h => by cases h⟩, by decide⟩

theorem witness_DeliveredByteLeavesNoEscapePending :
    (nextOf (perform (.raw 0x5E) (dStart true))).map State.escPending = some false ∧
    (descramble true 0x5E).2 ≠ none := by decide

theorem witness_ErrorsChangeWhatTheirEntrySays :
    (nextOf (perform (.raw 0x80) atCsum)).map (fun t => t.result.err) = some .truncated := by decide

/-- The clauses at position 0, above it, at the bound, and at the checksum with both sums. -/
theorem witness_PriorityAmongSimultaneousConditions :
    FrameInv State.reset ∧ FrameInv atCsum ∧ FrameInv atBound ∧
      atCsum.escPending = false ∧ (0x80 : Byte) ≠ 0x7D ∧ atBound.pos = atBound.cfg.maxFrame ∧ 3 ≤ atCsum.pos ∧
      atCsum.pos < atCsum.cfg.maxFrame ∧ atCsum.pos = atCsum.dlen + 3 ∧
      atCsum.dlen < atCsum.cfg.subhdrLen + atCsum.cfg.appPrefixLen + 25 ∧
      atCsum.csum + 0x80 = 0xFF ∧ atCsum.csum + 0x81 ≠ 0xFF := by decide

theorem witness_TicksAndLinkResetsLeaveTheFramePath :
    ∀ e ∈ ([.tick, .lreset, .tick] : List Event), e = .tick ∨ e = .lreset := by decide

theorem witness_RawBytesTouchTheLinkOnlyByArrival :
    (nextOf (perform (.raw 0x80) atCsum)).map State.link = some ⟨true, false, true, 0⟩ := by decide

theorem witness_SampleIsReplacedWholeOrKept :
    (nextOf (perform .reset { State.reset with sampleValid := true, sample := some (Sample.ofPayload 0 []) })).map
      State.sample = some none := by decide

/-- Below the ceiling and above it, where the unbounded counter has run on. -/
theorem witness_StepKeepsStandingForTheUnboundedCounter :
    ((linkAt false false true 18).withStimulus [.tick]).stimulus = .tick :: [] ∧
      StandsFor ((linkAt false false true 18).withStimulus [.tick]) ⟨false, false, true, 18⟩ ∧
      StandsFor ((linkAt false true true 19).withStimulus [.tick]) ⟨false, true, true, 40⟩ ∧
      (nextOf (step ((linkAt false true true 19).withStimulus [.tick]))).isSome = true := by decide

theorem witness_StepKeepsAgreementButLink :
    AgreeButLink (State.reset.withStimulus [.tick]) ((linkAt false true true 19).withStimulus [.tick]) ∧
      (nextOf (step (State.reset.withStimulus [.tick]))).isSome = true := by decide

theorem witness_LinkEventMovesAcrossAnIncompleteRawByte :
    ((nextOf (perform (.raw 0x81) atCsum)).bind fun t =>
      (nextOf (perform .tick t)).map fun _ => t.result.frameOk) = some false := by decide

theorem witness_LinkNeverInfluencesTheFramePath :
    State.reset.framePath = (linkAt false true true 19).framePath ∧ State.reset.cfg = (linkAt false true true 19).cfg ∧
      State.reset.result = (linkAt false true true 19).result ∧
      (nextOf (performAll [.raw 0x7E, .tick] State.reset)).isSome = true ∧
      (nextOf (performAll [.raw 0x7E, .tick] (linkAt false true true 19))).isSome = true := by decide

theorem witness_ResetSatisfiesTheInvariant : Config.reference.Valid := by decide

/-- `BlockInv` holds in the middle of an attempt, and the step answers a next state there. -/
theorem witness_StepKeepsTheInvariant :
    BlockInv (atCsum.withStimulus [.raw 0x80]) ∧ (nextOf (step (atCsum.withStimulus [.raw 0x80]))).isSome = true := by
  unfold BlockInv
  decide

theorem witness_StepNeverStops : BlockInv (atBound.withStimulus [.raw 0x7E]) := by
  unfold BlockInv
  decide

theorem witness_RunsHaveOneStepPerEvent : BlockInv atCsum := by
  unfold BlockInv
  decide

theorem witness_StepKeepsTheBufferCanonicalAndBounded :
    (nextOf (step (atCsum.withStimulus [.tick]))).isSome = true ∧ atCsum.buf.wf = true ∧
      ∀ c ∈ atCsum.buf, c.1 + 4 ≤ atCsum.cfg.maxFrame := by decide

theorem witness_StepKeepsTheParameters : (nextOf (step (State.reset.withStimulus [.reset]))).isSome = true := by decide

/-- A frame that fits exactly (V-A19's size), with both kinds of checksum octet. -/
theorem witness_FrameIsEmittedOrItsChecksumReported :
    BlockInv small ∧ small.escPending = false ∧ ([0x10, 0x20, 0x30, 0x40] : List Byte).length + 4 ≤ small.cfg.maxFrame ∧
      octetSum [0x10, 0x20, 0x30, 0x40] + 0x5F = 0xFF ∧ octetSum [0x10, 0x20, 0x30, 0x40] + 0x60 ≠ 0xFF ∧
      ([0x10, 0x20, 0x30, 0x40] : List Byte).length < small.cfg.minPayloadLen := by
  unfold BlockInv
  decide

/-- The same statement's other clause: a payload long enough for a sample. -/
theorem witness_FrameIsEmitted_longPayload :
    BlockInv State.reset ∧ extremePayload.length + 4 ≤ State.reset.cfg.maxFrame ∧
      State.reset.cfg.minPayloadLen ≤ extremePayload.length ∧ octetSum extremePayload + 0x14 = 0xFF := by
  unfold BlockInv
  decide

/-- The invariant holds with an escape pending, and the run of V-D16 selects one `D.ESC`. -/
theorem witness_LogicalStreamHasNoUnescapedEscapeMarker :
    BlockInv (dStart true) ∧ BlockInv State.reset ∧
      (selections (batch [0x7E, 0x00, 0x02, 0x01, 0x7D, 0x5E, 0x80]) State.reset).filterMap deliveredBy =
        [⟨0x7E, false⟩, ⟨0x00, false⟩, ⟨0x02, false⟩, ⟨0x01, false⟩, ⟨0x7E, true⟩, ⟨0x80, false⟩] := by
  unfold BlockInv
  exact ⟨by decide, by decide, by decide⟩

theorem witness_BatchesSplitAnywhere : BlockInv atCsum := by
  unfold BlockInv
  decide

theorem witness_UnescapedMarkersAreNeverStored :
    (dStart false).escPending = false ∧ (nextOf (perform (.raw 0x7E) (dStart false))).isSome = true ∧
      (nextOf (perform (.raw 0x7D) (dStart false))).isSome = true := by decide

theorem witness_StepsPerformTheStimulus :
    State.reset.stimulus = [] ∧ (nextOf (performAll [.raw 0x7E, .tick] State.reset)).isSome = true := by decide

/-! ## The two faults, in states no run reaches -/

theorem test_fault_unwrittenCell :
    faultOf (exec (.aCsum false 0xFF) { State.reset with pos := 4, lenLo := 1 }) = some (.unwrittenCell 0) := by decide
theorem test_fault_outsideBuffer : faultOf (memWrite 5 0x00 small) = some (.outsideBuffer 5) := by decide
theorem test_refused_offGuard :
    refusalOf (exec .aResync State.reset) = some (.operationNotSelected "A.RESYNC") := by decide

end Sys2Proof.Tests
end

section
/-! SUPPORT. Completion: an operation answers a next state under its `requires` line, and in a state that keeps the
frame path's invariants (R27, R28, R15) the selected operation meets its own. -/

namespace Sys2Proof.Machine

/-! ## Reading a buffer that is written without a gap -/

theorem Memory.lookup_of_mem {m : Memory} {a : Nat} {v : Byte} (hm : (m.map Prod.fst).Nodup) (h : (a, v) ∈ m) :
    m.lookup a = some v := by
  induction m with
  | nil => cases h
  | cons c m ih =>
    obtain ⟨hc, hm⟩ := List.nodup_cons.1 hm
    rcases List.mem_cons.1 h with rfl | h
    · simp [Memory.lookup]
    · have hne : a ≠ c.1 := fun e => hc (e ▸ List.mem_map_of_mem h)
      simpa [Memory.lookup, hne] using ih hm h

/-- Where the cells written are those at 0 to `n - 1`, reading them all answers their octets in order (R41, R42). -/
theorem memRead_of_map_fst_eq_range {s : State} {n : Nat} (h : s.buf.map Prod.fst = List.range n) :
    memRead 0 n s = .ok (s.buf.map Prod.snd) := by
  have hlen : s.buf.length = n := by simpa using congrArg List.length h
  refine (memRead_eq_ok_iff _ _ _ _).2 ⟨by simpa using hlen, fun i hi => ?_⟩
  have hi : i < s.buf.length := by simpa using hi
  have hindex : s.buf[i].1 = i := by
    have := List.getElem_of_eq h (i := i) (by simpa using hi)
    simpa using this
  have hmem : (i, s.buf[i].2) ∈ s.buf := by
    have := List.getElem_mem hi
    rwa [← Prod.mk.eta (p := s.buf[i]), hindex] at this
  simpa using Memory.lookup_of_mem (h ▸ List.nodup_range) hmem

/-! ## The FrameAssembler's operations under their guards -/

theorem execAStart_of_guard (e : Bool) {s : State} (hpos : s.pos = 0) : execAStart e s = .next (s.setPos 1) := by
  simp [execAStart, requires, hpos]

theorem execANostart_of_guard (e : Bool) {v : Byte} {s : State} (hpos : s.pos = 0) (hv : v ≠ startMarker) :
    execANostart e v s = .next (raise .noStart v.toNat s) := by
  simp [execANostart, requires, hpos, hv]

theorem execAResync_of_guard {s : State} (hpos : 1 ≤ s.pos) :
    execAResync s = .next (raise .unexpectedStart s.pos s) := by
  simp [execAResync, requires, hpos]

theorem execALenhi_of_guard {e : Bool} {v : Byte} {s : State} (hpos : s.pos = 1) (hf : notFreshStart e v = true) :
    execALenhi e v s = .next ((s.setLenHi v).setPos 2) := by
  simp [execALenhi, requires, hpos, hf]

theorem execALenlo_of_guard {e : Bool} {v : Byte} {s : State} (hpos : s.pos = 2) (hf : notFreshStart e v = true) :
    execALenlo e v s = .next ((s.setLenLo v).setPos 3) := by
  simp [execALenlo, requires, hpos, hf]

theorem execAOversize_of_guard {e : Bool} {v : Byte} {s : State} (hpos : 3 ≤ s.pos) (hmax : s.cfg.maxFrame ≤ s.pos)
    (hf : notFreshStart e v = true) : execAOversize e v s = .next (raise .oversize s.dlen s) := by
  simp [execAOversize, requires, hpos, hmax, hf]

/-- Below `MAX_FRAME` the cell that `A.DATA` writes is inside the buffer (R40). -/
theorem execAData_of_guard {e : Bool} {v : Byte} {s : State} (hpos : 3 ≤ s.pos) (hmax : s.pos < s.cfg.maxFrame)
    (hlen : s.pos < s.dlen + 3) (hf : notFreshStart e v = true) :
    execAData e v s =
      .next { s with buf := s.buf.write (s.pos - 3) v, csum := s.csum + v, pos := s.pos + 1 } := by
  have hcell := (memWrite_eq_next_iff (s.pos - 3) v s _).2 ⟨by omega, rfl⟩
  simp only [execAData, hcell, andThen_next]
  simp [requires, hpos, hmax, hlen, hf, State.setCsum, State.setPos, csumAfter]

theorem execACsum_of_valid {e : Bool} {v : Byte} {s : State} {payload : List Byte} (hpos : 3 ≤ s.pos)
    (hmax : s.pos < s.cfg.maxFrame) (hlen : s.pos = s.dlen + 3) (hf : notFreshStart e v = true)
    (hsum : s.csum + v = csumOk) (hread : memRead 0 s.dlen s = .ok payload) :
    execACsum e v s = .next (decodeSample payload (linkArrival (s.emitFrame payload))).clear := by
  have hlen' : (s.pos == s.dlen + 3) = true := by simpa using hlen
  simp [execACsum, requires, hpos, hmax, hlen', hf, csumAfter, hsum, hread]

theorem execACsum_of_invalid {e : Bool} {v : Byte} {s : State} (hpos : 3 ≤ s.pos)
    (hmax : s.pos < s.cfg.maxFrame) (hlen : s.pos = s.dlen + 3) (hf : notFreshStart e v = true)
    (hsum : s.csum + v ≠ csumOk) : execACsum e v s = .next (raise .checksum (s.csum + v).toNat s) := by
  have hlen' : (s.pos == s.dlen + 3) = true := by simpa using hlen
  simp [execACsum, requires, hpos, hmax, hlen', hf, csumAfter, hsum, raise_checksum, State.clear]

/-- The last octet of a frame: the payload's cells have all been written (R15), so a valid sum can read them. -/
theorem execACsum_completes {e : Bool} {v : Byte} {s : State} (hbuf : s.buf.map Prod.fst = List.range (s.pos - 3))
    (hpos : 3 ≤ s.pos) (hmax : s.pos < s.cfg.maxFrame) (hlen : s.pos = s.dlen + 3) (hf : notFreshStart e v = true) :
    ∃ t, execACsum e v s = .next t := by
  by_cases hsum : s.csum + v = csumOk
  · have hcells : s.buf.map Prod.fst = List.range s.dlen := by rw [hbuf, hlen, Nat.add_sub_cancel]
    exact ⟨_, execACsum_of_valid hpos hmax hlen hf hsum (memRead_of_map_fst_eq_range hcells)⟩
  · exact ⟨_, execACsum_of_invalid hpos hmax hlen hf hsum⟩

/-! ## Every logical byte, every event -/

/-- The dispatch of R100 leaves `A.CSUM` the positions from `dlen + 3` on; R28 leaves only `dlen + 3` itself. -/
theorem asmStep_completes (lb : LogicalByte) {s : State} (h : FrameInv s) : ∃ t, asmStep lb s = .next t := by
  obtain ⟨-, ⟨-, hle, -, -⟩, hbuf, -⟩ := h
  unfold asmStep
  split
  · next hc => exact ⟨_, execAStart_of_guard _ hc.1⟩
  split
  · next hc hp => exact ⟨_, execANostart_of_guard _ hp fun hv => hc ⟨hp, hv⟩⟩
  next h0 =>
  split
  · exact ⟨_, execAResync_of_guard (Nat.pos_of_ne_zero h0)⟩
  next hc =>
  have hf : notFreshStart lb.escaped lb.v = true := (notFreshStart_eq_true_iff _ _).2 hc
  split
  · next h1 => exact ⟨_, execALenhi_of_guard h1 hf⟩
  split
  · next h2 => exact ⟨_, execALenlo_of_guard h2 hf⟩
  have h3 : 3 ≤ s.pos := by omega
  split
  · next hmax => exact ⟨_, execAOversize_of_guard h3 hmax hf⟩
  next hmax =>
  have hmax : s.pos < s.cfg.maxFrame := Nat.lt_of_not_le hmax
  split
  · next hlt => exact ⟨_, execAData_of_guard h3 hmax hlt hf⟩
  · next hge => exact execACsum_completes hbuf h3 hmax (Nat.le_antisymm (hle h3) (Nat.le_of_not_lt hge)) hf

theorem execDUnesc_of_pending (b : Byte) {s : State} (h : s.escPending = true) :
    execDUnesc b s = asmStep ⟨unescape b, true⟩ (s.setEsc false) := by
  simp [execDUnesc, requires, h]

theorem execDEsc_of_not_pending {s : State} (h : s.escPending = false) : execDEsc s = .next (s.setEsc true) := by
  simp [execDEsc, requires, h]

theorem execDLit_of_not_pending {b : Byte} {s : State} (h : s.escPending = false) (hb : b ≠ escMarker) :
    execDLit b s = asmStep ⟨b, false⟩ s := by
  simp [execDLit, requires, h, hb]

/-- The operation a raw byte selects (R61) completes: `D.ESC` at once, the others as the FrameAssembler does. -/
theorem exec_selected_raw_completes (b : Byte) {s : State} (h : FrameInv s) :
    ∃ t, exec (s.selected (.raw b)) s.begin = .next t := by
  rw [selected_raw]
  unfold decodeRaw9
  simp only [tagOf_tagged, octetOf_tagged]
  split
  · next he =>
    obtain ⟨t, ht⟩ := asmStep_completes ⟨unescape b, true⟩ (s := s.begin.setEsc false) h
    exact ⟨t, (execDUnesc_of_pending b (s := s.begin) he).trans ht⟩
  next he =>
  have he : s.begin.escPending = false := by simpa using he
  split
  · exact ⟨_, execDEsc_of_not_pending he⟩
  · next hb =>
    obtain ⟨t, ht⟩ := asmStep_completes ⟨b, false⟩ (s := s.begin) h
    exact ⟨t, (execDLit_of_not_pending he hb).trans ht⟩

/-- R5: an event is answered in every state that keeps the frame path's invariants. -/
theorem perform_completes (e : Event) {s : State} (h : FrameInv s) : ∃ t, perform e s = .next t := by
  cases e with
  | raw b =>
    obtain ⟨u, hu⟩ := exec_selected_raw_completes b h
    exact ⟨_, (perform_eq_next_iff _ _ _).2 ⟨u, hu, rfl⟩⟩
  | tick => exact ⟨_, perform_tick s⟩
  | lreset => exact ⟨_, perform_lreset s⟩
  | reset => exact ⟨_, perform_reset s⟩

/-- The part of the block's invariant that the frame path's operations need. -/
theorem BlockInv.frameInv {s : State} (h : BlockInv s) : FrameInv s := by
  obtain ⟨hcfg, hpos, hbuf, -⟩ := h
  exact ⟨hcfg, hpos, hbuf⟩

/-- Settles O49: with no event left the step is idle, and any event is answered under `FrameInv`. -/
theorem stepNeverStops : Obligations.StepNeverStops := by
  unfold Obligations.StepNeverStops
  intro s h
  cases hs : s.stimulus with
  | nil => exact ⟨s, step_nil hs⟩
  | cons e rest =>
    obtain ⟨t, ht⟩ := perform_completes e (s := { s with stimulus := rest }) h.frameInv
    exact ⟨t, (step_cons hs).trans ht⟩

end Sys2Proof.Machine
end

section
/-! SUPPORT. What every step keeps (10_state.md): the parameters (R10), the sample (R17, R19), the escape flag (R30) and
the invariant of the reachable states (R27 to R30). What an event can do is said once, as `EventEffect`; each fact kept is
a case analysis over it. -/

namespace Sys2Proof.Machine

/-! ## What one event can do -/

/-- What an event can make of a state, before `link_state` is driven: one case per kind of event, a raw byte taken as an
escape marker apart from one that delivers a logical byte. -/
inductive EventEffect (s : State) : Event → State → Prop
  | escape (b : Byte) (hd : descramble s.escPending b = (true, none)) : EventEffect s (.raw b) (s.begin.setEsc true)
  | deliver (b : Byte) (lb : LogicalByte) (u : State) (hd : descramble s.escPending b = (false, some lb))
      (hu : AsmEffect lb (s.begin.setEsc false) u) : EventEffect s (.raw b) u
  | tick : EventEffect s .tick (linkTick s.begin)
  | lreset : EventEffect s .lreset (linkReset s.begin)
  | reset : EventEffect s .reset (resetBlock s.begin)

/-- If an event is answered with a next state, that state is one of these with `classify()` on the link output. -/
theorem perform_next {e : Event} {s t : State} (h : perform e s = .next t) :
    ∃ u, EventEffect s e u ∧ t = u.driveLink u.classify := by
  cases e with
  | raw b =>
    obtain ⟨hd, -, -, rfl⟩ | ⟨lb, u, hd, -, hu, rfl⟩ := perform_raw_next h
    · exact ⟨_, .escape b hd, rfl⟩
    · exact ⟨u, .deliver b lb u hd (asmStep_next hu), rfl⟩
  | tick => exact ⟨_, .tick, (Host.Outcome.next.inj h).symm⟩
  | lreset => exact ⟨_, .lreset, (Host.Outcome.next.inj h).symm⟩
  | reset => exact ⟨_, .reset, (Host.Outcome.next.inj h).symm⟩

/-- A step is idle, or performs the next event of the run. -/
theorem step_next {s t : State} (h : step s = .next t) :
    t = s ∨ ∃ e rest, perform e { s with stimulus := rest } = .next t := by
  cases hs : s.stimulus with
  | nil => exact .inl (Host.Outcome.next.inj ((step_nil hs).symm.trans h)).symm
  | cons e rest => exact .inr ⟨e, rest, (step_cons hs).symm.trans h⟩

/-! ## The reset of the whole block (R210) -/

@[simp] theorem resetBlock_cfg (s : State) : (resetBlock s).cfg = s.cfg := rfl
@[simp] theorem resetBlock_result (s : State) : (resetBlock s).result = s.result := rfl
@[simp] theorem resetBlock_sampleValid (s : State) : (resetBlock s).sampleValid = false := rfl
@[simp] theorem resetBlock_sample (s : State) : (resetBlock s).sample = none := rfl
@[simp] theorem resetBlock_link (s : State) : (resetBlock s).link = ⟨false, false, false, 0⟩ := rfl

/-! ## The parameters (R10) -/

theorem AsmEffect.cfg_eq {lb : LogicalByte} {s t : State} (h : AsmEffect lb s t) : t.cfg = s.cfg := by
  cases h <;> simp

theorem EventEffect.cfg_eq {s u : State} {e : Event} (h : EventEffect s e u) : u.cfg = s.cfg := by
  cases h with
  | deliver b lb u hd hu => simpa using hu.cfg_eq
  | escape | tick | lreset | reset => simp

theorem perform_keeps_cfg {e : Event} {s t : State} (h : perform e s = .next t) : t.cfg = s.cfg := by
  obtain ⟨u, hu, rfl⟩ := perform_next h
  simpa using hu.cfg_eq

/-- Settles O52: neither an idle step nor an event writes the parameters. -/
theorem stepKeepsTheParameters : Obligations.StepKeepsTheParameters := by
  unfold Obligations.StepKeepsTheParameters
  intro s t h
  obtain rfl | ⟨e, rest, h⟩ := step_next h
  · rfl
  · exact perform_keeps_cfg (s := { s with stimulus := rest }) h

/-! ## The escape flag (R30) -/

theorem AsmEffect.escPending_eq {lb : LogicalByte} {s t : State} (h : AsmEffect lb s t) :
    t.escPending = s.escPending := by
  cases h <;> simp

theorem EventEffect.escPending_raw {s u : State} {b : Byte} (h : EventEffect s (.raw b) u) :
    u.escPending = (descramble s.escPending b).1 := by
  cases h with
  | escape _ hd => simp [hd]
  | deliver _ lb _ hd hu => simpa [hd] using hu.escPending_eq

/-- The descrambler's two outputs exclude each other: it sets its flag only when it delivers nothing. -/
theorem descramble_flag_eq_false_of_delivered {esc : Bool} {b : Byte} (h : (descramble esc b).2 ≠ none) :
    (descramble esc b).1 = false := by
  unfold descramble at h ⊢
  split
  · rfl
  · next hesc =>
    split
    · next hb => simp [hesc, hb] at h
    · rfl

/-- R30: whatever the event, only a step that reports nothing can leave an escape pending. -/
theorem EventEffect.escPending_of_reports {s u : State} {e : Event} (h : EventEffect s e u)
    (hr : u.result ≠ Result.allClear) : u.escPending = false := by
  cases h with
  | deliver b lb u hd hu => exact hu.escPending_eq
  | escape | tick | lreset | reset => exact absurd (by simp) hr

/-- Settles O38: a raw byte leaves the descrambler's flag, which is 0 on delivery and on any report. -/
theorem deliveredByteLeavesNoEscapePending : Obligations.DeliveredByteLeavesNoEscapePending := by
  unfold Obligations.DeliveredByteLeavesNoEscapePending
  intro s t b h
  obtain ⟨u, hu, rfl⟩ := perform_next h
  have hesc : u.escPending = (descramble s.escPending b).1 := hu.escPending_raw
  exact ⟨hesc, fun hd => hesc.trans (descramble_flag_eq_false_of_delivered hd), hu.escPending_of_reports⟩

/-! ## The sample (R17, R19) -/

/-- A logical byte either completes a frame long enough to decode, which replaces the sample whole, or keeps it. -/
theorem AsmEffect.sample_replaced_or_kept {lb : LogicalByte} {s t : State} (h : AsmEffect lb s t)
    (hr : s.result.sampleOk = false) :
    (∃ payload, t.result.sampleOk = true ∧ t.result.frame = some payload ∧ t.sampleValid = true ∧
      t.sample = some (Sample.ofPayload s.cfg.fieldBase payload)) ∨
    (t.result.sampleOk = false ∧ t.sampleValid = s.sampleValid ∧ t.sample = s.sample) := by
  cases h with
  | frame payload =>
    by_cases hlen : payload.length < s.cfg.minPayloadLen
    · right
      rw [decodeSample_short _ (linkArrival (s.emitFrame payload)) hlen]
      simp [hr]
    · left
      rw [decodeSample_long _ (linkArrival (s.emitFrame payload)) (Nat.le_of_not_lt hlen)]
      simp
  | start | nostart | resync | lenhi | lenlo | oversize | data | badSum => simp [hr]

/-- Settles O43: only a delivered byte can replace the sample, only `RESET` drops it. -/
theorem sampleIsReplacedWholeOrKept : Obligations.SampleIsReplacedWholeOrKept := by
  unfold Obligations.SampleIsReplacedWholeOrKept
  intro e s t h
  obtain ⟨u, hu, rfl⟩ := perform_next h
  cases hu with
  | deliver b lb _ _ hu =>
    obtain ⟨payload, hnew⟩ | hkept := hu.sample_replaced_or_kept rfl
    · exact .inl ⟨b, payload, rfl, hnew⟩
    · exact .inr (.inr ⟨nofun, hkept⟩)
  | reset => exact .inr (.inl (by simp))
  | escape | tick | lreset => exact .inr (.inr (by simp [Result.allClear]))

theorem perform_keeps_sampleInv {e : Event} {s t : State} (hs : SampleInv s) (h : perform e s = .next t) :
    SampleInv t := by
  obtain ⟨b, payload, -, -, -, hv, hx⟩ | ⟨-, hv, hx⟩ | ⟨-, -, hv, hx⟩ := sampleIsReplacedWholeOrKept e s t h
  · simp [SampleInv, hv, hx]
  · simp [SampleInv, hv, hx]
  · simpa only [SampleInv, hv, hx] using hs

/-! ## The LinkWatcher's registers (R29, R20) -/

/-- A logical byte touches the LinkWatcher only as an arrival (R142). -/
theorem AsmEffect.link_kept_or_arrival {lb : LogicalByte} {s t : State} (h : AsmEffect lb s t) :
    t.link = s.link ∨ t.link = ⟨true, false, true, 0⟩ := by
  cases h with
  | frame payload => exact .inr (by simp [State.link])
  | start | nostart | resync | lenhi | lenlo | oversize | data | badSum => exact .inl (by simp [State.link])

/-- The link's rules speak of the four registers and the threshold alone. -/
theorem linkInv_congr {s t : State} (hlink : t.link = s.link) (hcfg : t.cfg = s.cfg) : LinkInv t ↔ LinkInv s := by
  obtain ⟨hseen, hlost, hever, hcount⟩ := LinkRegisters.mk.inj hlink
  simp only [LinkInv, hseen, hlost, hever, hcount, hcfg]

theorem linkInv_of_arrival {s : State} (h : s.link = ⟨true, false, true, 0⟩) : LinkInv s := by
  obtain ⟨hseen, hlost, hever, hcount⟩ := LinkRegisters.mk.inj h
  simp [LinkInv, hseen, hlost, hever, hcount]

theorem linkInv_of_reset {s : State} (h : s.link = ⟨false, false, false, 0⟩) : LinkInv s := by
  obtain ⟨hseen, hlost, hever, hcount⟩ := LinkRegisters.mk.inj h
  simp [LinkInv, hseen, hlost, hever, hcount]

/-- A tick never takes the counter over its ceiling (R20, R143). -/
theorem counterAfterTick_le {s : State} (h : s.counter ≤ s.cfg.lostThreshold + 1) :
    counterAfterTick s ≤ s.cfg.lostThreshold + 1 := by
  unfold counterAfterTick
  split
  · exact h
  · exact Nat.min_le_right _ _

/-- With the counter at its ceiling whenever `lost` is set, `lost` after a tick again means the ceiling. -/
theorem counterAfterTick_eq_of_lostAfterTick {s : State} (hs : LinkInv s) (h : lostAfterTick s = true) :
    counterAfterTick s = s.cfg.lostThreshold + 1 := by
  obtain ⟨hseen, hlost, -, hcount⟩ := hs
  have hle := counterAfterTick_le hcount
  unfold lostAfterTick at h
  split at h
  · omega
  · have hnot : s.seenRecently = false := by
      by_contra hrecent
      obtain ⟨-, hl, -⟩ := hseen (by simpa using hrecent)
      simp [hl] at h
    simp [counterAfterTick, hnot, counterCeiling, hlost h]

theorem linkTick_keeps_linkInv {s : State} (hs : LinkInv s) : LinkInv (linkTick s) := by
  have hlost := counterAfterTick_eq_of_lostAfterTick hs
  obtain ⟨-, -, -, hcount⟩ := hs
  exact ⟨by simp, hlost, by simp, counterAfterTick_le hcount⟩

theorem EventEffect.keeps_linkInv {s u : State} {e : Event} (hs : LinkInv s) (h : EventEffect s e u) : LinkInv u := by
  cases h with
  | escape => exact hs
  | deliver b lb u hd hu =>
    obtain hkept | harrival := hu.link_kept_or_arrival
    · exact (linkInv_congr hkept hu.cfg_eq).2 hs
    · exact linkInv_of_arrival harrival
  | tick => exact linkTick_keeps_linkInv (s := s.begin) hs
  | lreset => exact linkInv_of_reset rfl
  | reset => exact linkInv_of_reset rfl

/-! ## The frame path (R12, R14, R15, R27, R28) -/

/-- Up to position 3 nothing has been summed or stored, and that is all the frame path's invariant says there. -/
theorem frameInv_iff_of_pos_le_three {s : State} (hp : s.pos ≤ 3) :
    FrameInv s ↔ ConfigInv s ∧ s.csum = 0 ∧ s.buf = [] ∧ (s.pos = 0 → s.lenHi = 0 ∧ s.lenLo = 0) := by
  have hnone : s.pos - 3 = 0 := by omega
  constructor
  · rintro ⟨hcfg, ⟨-, -, hzero, hcsum⟩, hbuf, -⟩
    refine ⟨hcfg, hcsum hp, by simpa [hnone] using hbuf, fun h0 => ?_⟩
    obtain ⟨hhi, hlo, -⟩ := hzero h0
    exact ⟨hhi, hlo⟩
  · rintro ⟨hcfg, hcsum, hbuf, hlen⟩
    have hmax : 4 ≤ s.cfg.maxFrame := hcfg.1
    refine ⟨hcfg, ⟨by omega, fun _ => by omega, fun h0 => ?_, fun _ => hcsum⟩, by simp [hnone, hbuf],
      by simp [hbuf, hcsum, octetSum]⟩
    obtain ⟨hhi, hlo⟩ := hlen h0
    exact ⟨hhi, hlo, hcsum⟩

/-- The octets before the payload (R101, R104, R105) move `pos` within 1 to 3 and leave `csum` and `buf`. -/
theorem header_octet_keeps_frameInv {s t : State} (hs : FrameInv s) (hp : s.pos ≤ 3) (h0 : t.pos ≠ 0) (hp' : t.pos ≤ 3)
    (hcfg : t.cfg = s.cfg) (hcsum : t.csum = s.csum) (hbuf : t.buf = s.buf) : FrameInv t := by
  obtain ⟨hvalid, hcsum0, hbuf0, -⟩ := (frameInv_iff_of_pos_le_three hp).1 hs
  exact (frameInv_iff_of_pos_le_three hp').2
    ⟨by rwa [ConfigInv, hcfg], hcsum.trans hcsum0, hbuf.trans hbuf0, fun h => absurd h h0⟩

/-- `clear` (R109) leaves the frame path's invariant, whatever stood before. -/
theorem clear_frameInv {s : State} (hcfg : ConfigInv s) : FrameInv s.clear :=
  (frameInv_iff_of_pos_le_three (s := s.clear) (by simp)).2 ⟨hcfg, by simp⟩

theorem octetSum_append (xs ys : List Byte) : octetSum (xs ++ ys) = octetSum xs + octetSum ys := by
  induction xs with
  | nil => simp [octetSum]
  | cons x xs ih => simp [octetSum, ih, BitVec.add_assoc]

/-- The next cell in order is appended (R15, R41). -/
theorem Memory.write_next {m : Memory} {n : Nat} (h : m.map Prod.fst = List.range n) (v : Byte) :
    m.write n v = m ++ [(n, v)] := by
  refine Memory.write_append m n v fun c hc => ?_
  have hmem : c.1 ∈ List.range n := h ▸ List.mem_map_of_mem hc
  simpa using hmem

/-- `A.DATA` (R106) keeps the cells in order and `csum` their sum. -/
theorem data_keeps_frameInv {s : State} (v : Byte) (hs : FrameInv s) (hpos : 3 ≤ s.pos)
    (hmax : s.pos < s.cfg.maxFrame) (hlen : s.pos < s.dlen + 3) :
    FrameInv { s with buf := s.buf.write (s.pos - 3) v, csum := s.csum + v, pos := s.pos + 1 } := by
  obtain ⟨hcfg, -, hbuf, hsum⟩ := hs
  have hnext : s.pos + 1 - 3 = (s.pos - 3) + 1 := by omega
  refine ⟨hcfg, ⟨hmax, fun _ => hlen, fun h0 => absurd h0 (Nat.succ_ne_zero _), fun h3 => ?_⟩, ?_, ?_⟩
  · exact absurd h3 (by simpa using hpos)
  · simp only [Memory.write_next hbuf, List.map_append, hbuf, hnext, List.range_succ, List.map_cons, List.map_nil]
  · simp [Memory.write_next hbuf, octetSum_append, hsum, octetSum]

theorem AsmEffect.keeps_frameInv {lb : LogicalByte} {s t : State} (hs : FrameInv s) (h : AsmEffect lb s t) :
    FrameInv t := by
  have hcfg : ConfigInv s := hs.1
  cases h with
  | start hpos hv => exact header_octet_keeps_frameInv hs (by omega) (by simp) (by simp) rfl rfl rfl
  | nostart hpos hv => exact hs
  | resync hpos hv he =>
    exact (frameInv_iff_of_pos_le_three (by simp [raise_unexpectedStart])).2
      ⟨hcfg, by simp [raise_unexpectedStart]⟩
  | lenhi hpos hf => exact header_octet_keeps_frameInv hs (by omega) (by simp) (by simp) rfl rfl rfl
  | lenlo hpos hf => exact header_octet_keeps_frameInv hs (by omega) (by simp) (by simp) rfl rfl rfl
  | oversize hpos hmax hf => exact clear_frameInv hcfg
  | data hpos hmax hlen hf => exact data_keeps_frameInv lb.v hs hpos hmax hlen
  | frame payload => exact clear_frameInv (by simpa [ConfigInv] using hcfg)
  | badSum hpos hmax hlen hf hsum => exact clear_frameInv hcfg

theorem EventEffect.keeps_frameInv {s u : State} {e : Event} (hs : FrameInv s) (h : EventEffect s e u) :
    FrameInv u := by
  cases h with
  | deliver b lb u hd hu => exact AsmEffect.keeps_frameInv (s := s.begin.setEsc false) hs hu
  | reset => exact clear_frameInv hs.1
  | escape | tick | lreset => exact hs

/-! ## The invariant of the reachable states -/

theorem perform_keeps_blockInv {e : Event} {s t : State} (hs : BlockInv s) (h : perform e s = .next t) :
    BlockInv t := by
  have hframe := hs.frameInv
  obtain ⟨-, -, -, hsample, hlink, -⟩ := hs
  have hsample' := perform_keeps_sampleInv hsample h
  obtain ⟨u, hu, rfl⟩ := perform_next h
  obtain ⟨hcfg', hpos', hbuf'⟩ := hu.keeps_frameInv hframe
  have hlink' : LinkInv u := hu.keeps_linkInv hlink
  exact ⟨hcfg', hpos', hbuf', hsample', hlink', hu.escPending_of_reports, rfl⟩

/-- Settles O48: an idle step changes nothing, and every event keeps each part of the invariant. -/
theorem stepKeepsTheInvariant : Obligations.StepKeepsTheInvariant := by
  unfold Obligations.StepKeepsTheInvariant
  intro s t hs h
  obtain rfl | ⟨e, rest, h⟩ := step_next h
  · exact hs
  · exact perform_keeps_blockInv (s := { s with stimulus := rest }) hs h

/-- The registers of R31 under any legal parameters. -/
theorem resetOf_blockInv {c : Config} (hc : c.Valid) : BlockInv (State.resetOf c) := by
  obtain ⟨hcfg, hpos, hbuf⟩ : FrameInv (State.resetOf c) :=
    (frameInv_iff_of_pos_le_three (Nat.zero_le 3)).2 ⟨hc, rfl, rfl, fun _ => ⟨rfl, rfl⟩⟩
  exact ⟨hcfg, hpos, hbuf, rfl, linkInv_of_reset rfl, fun _ => rfl, rfl⟩

/-- Settles O47: the reference configuration meets R4's constraints. -/
theorem resetSatisfiesTheInvariant : Obligations.ResetSatisfiesTheInvariant := by
  unfold Obligations.ResetSatisfiesTheInvariant
  exact ⟨fun c hc => resetOf_blockInv hc, resetOf_blockInv (by decide)⟩

end Sys2Proof.Machine
end

section
/-! SUPPORT. The payload buffer (20_memory.md R40 to R43): what one event can do to it, said once, and that its
canonical form and its bound survive every step. -/

namespace Sys2Proof.Machine

/-! ## What one write or one event can do to the buffer -/

/-- Every cell after a write is the cell written or one that stood before. -/
theorem Memory.eq_or_mem_of_mem_write {m : Memory} {a : Nat} {v : Byte} {c : Host.Cell} (h : c ∈ m.write a v) :
    c = (a, v) ∨ c ∈ m := by
  induction m with
  | nil => exact .inl (List.mem_singleton.1 h)
  | cons d m ih =>
    unfold Memory.write at h
    split at h
    · exact List.mem_cons.1 h
    split at h
    · exact (List.mem_cons.1 h).imp_right (List.mem_cons_of_mem _)
    · obtain rfl | h := List.mem_cons.1 h
      · exact .inr (List.mem_cons_self ..)
      · exact (ih h).imp_right (List.mem_cons_of_mem _)

/-- What can become of a buffer `m`: nothing, `clear` (R109, R43), or one octet stored inside R40's indices. -/
inductive BufferEffect (maxFrame : Nat) (m : Memory) : Memory → Prop
  | kept : BufferEffect maxFrame m m
  | cleared : BufferEffect maxFrame m []
  | stored (a : Nat) (v : Byte) (ha : a + 4 ≤ maxFrame) : BufferEffect maxFrame m (m.write a v)

/-- Only `A.DATA` writes a cell (R41), and below `MAX_FRAME` that cell is inside the buffer. -/
theorem AsmEffect.bufferEffect {lb : LogicalByte} {s t : State} (h : AsmEffect lb s t) :
    BufferEffect s.cfg.maxFrame s.buf t.buf := by
  cases h with
  | start | nostart | lenhi | lenlo => exact .kept
  | resync | oversize | frame | badSum => exact .cleared
  | data hpos hmax => exact .stored (s.pos - 3) lb.v (by omega)

theorem EventEffect.bufferEffect {s u : State} {e : Event} (h : EventEffect s e u) :
    BufferEffect s.cfg.maxFrame s.buf u.buf := by
  cases h with
  | deliver b lb u hd hu => exact hu.bufferEffect
  | escape | tick | lreset => exact .kept
  | reset => exact .cleared

theorem step_bufferEffect {s t : State} (h : step s = .next t) : BufferEffect s.cfg.maxFrame s.buf t.buf := by
  obtain rfl | ⟨e, rest, h⟩ := step_next h
  · exact .kept
  · obtain ⟨u, hu, rfl⟩ := perform_next h
    exact hu.bufferEffect

/-! ## What every step keeps of it -/

theorem BufferEffect.keeps_wf {n : Nat} {m m' : Memory} (h : BufferEffect n m m') (hm : m.wf = true) :
    m'.wf = true := by
  cases h with
  | kept => exact hm
  | cleared => rfl
  | stored a v => exact Memory.write_wf m a v hm

theorem BufferEffect.keeps_bound {n : Nat} {m m' : Memory} (h : BufferEffect n m m') (hm : ∀ c ∈ m, c.1 + 4 ≤ n) :
    ∀ c ∈ m', c.1 + 4 ≤ n := by
  cases h with
  | kept => exact hm
  | cleared => exact fun c hc => absurd hc List.not_mem_nil
  | stored a v ha =>
    intro c hc
    obtain rfl | hc := Memory.eq_or_mem_of_mem_write hc
    · exact ha
    · exact hm c hc

/-- Settles O51: both properties survive whichever of the three things the step does to the buffer. -/
theorem stepKeepsTheBufferCanonicalAndBounded : Obligations.StepKeepsTheBufferCanonicalAndBounded := by
  unfold Obligations.StepKeepsTheBufferCanonicalAndBounded
  intro s t h
  have hbuf := step_bufferEffect h
  rw [stepKeepsTheParameters s t h]
  exact ⟨hbuf.keeps_wf, hbuf.keeps_bound⟩

end Sys2Proof.Machine
end

section
/-! SUPPORT. Independence of the frame path and the LinkWatcher (R53, R195): a raw byte that completes no frame does to
a state with other link registers what it does to the state itself, and a `TICK` or `LRESET` does nothing but rewrite
those registers. The two therefore commute. -/

namespace Sys2Proof.Machine

/-! ## The cases of an event, from the case to the answer -/

/-- Past the length octets, with no fresh start marker, R100 looks at the bound and the declared length alone. -/
theorem asmStep_of_three_le {lb : LogicalByte} {s : State} (hpos : 3 ≤ s.pos)
    (hf : notFreshStart lb.escaped lb.v = true) :
    asmStep lb s =
      if s.cfg.maxFrame ≤ s.pos then execAOversize lb.escaped lb.v s
      else if s.pos < s.dlen + 3 then execAData lb.escaped lb.v s
      else execACsum lb.escaped lb.v s := by
  have h0 : s.pos ≠ 0 := by omega
  have h1 : s.pos ≠ 1 := by omega
  have h2 : s.pos ≠ 2 := by omega
  have hfresh := (notFreshStart_eq_true_iff _ _).1 hf
  simp only [asmStep, h0, h1, h2, hfresh, false_and, if_false]

/-- R100 leaves `A.CSUM` the position `dlen + 3` below `MAX_FRAME`. -/
theorem asmStep_of_pos_eq {lb : LogicalByte} {s : State} (hpos : 3 ≤ s.pos) (hmax : s.pos < s.cfg.maxFrame)
    (hlen : s.pos = s.dlen + 3) (hf : notFreshStart lb.escaped lb.v = true) :
    asmStep lb s = execACsum lb.escaped lb.v s := by
  rw [asmStep_of_three_le hpos hf, if_neg (Nat.not_le.2 hmax), if_neg (Nat.not_lt.2 hlen.ge)]

/-- The cases of `AsmEffect` are the FrameAssembler's answers: each one's guards leave R100 that operation alone. -/
theorem AsmEffect.asmStep_eq {lb : LogicalByte} {s t : State} (h : AsmEffect lb s t) : asmStep lb s = .next t := by
  cases h with
  | start hpos hv => simpa [asmStep, hpos, hv] using execAStart_of_guard lb.escaped hpos
  | nostart hpos hv => simpa [asmStep, hpos, hv] using execANostart_of_guard lb.escaped hpos hv
  | resync hpos hv he => simpa [asmStep, Nat.ne_of_gt hpos, hv, he] using execAResync_of_guard hpos
  | lenhi hpos hf =>
    have hfresh := (notFreshStart_eq_true_iff _ _).1 hf
    simpa [asmStep, hpos, hfresh] using execALenhi_of_guard hpos hf
  | lenlo hpos hf =>
    have hfresh := (notFreshStart_eq_true_iff _ _).1 hf
    simpa [asmStep, hpos, hfresh] using execALenlo_of_guard hpos hf
  | oversize hpos hmax hf =>
    rw [asmStep_of_three_le hpos hf, if_pos hmax]
    exact execAOversize_of_guard hpos hmax hf
  | data hpos hmax hlen hf =>
    rw [asmStep_of_three_le hpos hf, if_neg (Nat.not_le.2 hmax), if_pos hlen]
    exact execAData_of_guard hpos hmax hlen hf
  | frame payload hpos hmax hlen hf hsum hread =>
    exact (asmStep_of_pos_eq hpos hmax hlen hf).trans (execACsum_of_valid hpos hmax hlen hf hsum hread)
  | badSum hpos hmax hlen hf hsum =>
    exact (asmStep_of_pos_eq hpos hmax hlen hf).trans (execACsum_of_invalid hpos hmax hlen hf hsum)

/-- A raw byte's operation (R61) answers what the descrambler's two outputs say. -/
theorem exec_selected_raw (b : Byte) (s : State) :
    exec (s.selected (.raw b)) s.begin =
      match descramble s.escPending b with
      | (esc, none) => .next (s.begin.setEsc esc)
      | (esc, some lb) => asmStep lb (s.begin.setEsc esc) := by
  rw [selected_raw]
  unfold decodeRaw9 descramble
  simp only [tagOf_tagged, octetOf_tagged]
  split
  · next he => exact execDUnesc_of_pending b (s := s.begin) he
  next he =>
  have he : s.begin.escPending = false := by simpa using he
  split
  · exact execDEsc_of_not_pending he
  · next hb =>
    exact (execDLit_of_not_pending he hb).trans (congrArg (asmStep ⟨b, false⟩) (setEsc_eq_self he).symm)

/-- The raw byte's cases of `EventEffect` are the step's answers, with the link output driven (R168). -/
theorem EventEffect.perform_raw_eq {s u : State} {b : Byte} (h : EventEffect s (.raw b) u) :
    perform (.raw b) s = .next (u.driveLink u.classify) := by
  refine (perform_eq_next_iff _ _ _).2 ⟨u, (exec_selected_raw b s).trans ?_, rfl⟩
  cases h with
  | escape _ hd => rw [hd]
  | deliver _ lb _ hd hu => rw [hd]; exact hu.asmStep_eq

/-! ## Other link registers under the same frame path -/

/-- The state with the LinkWatcher's registers at `l` and the link output showing their class (R168). -/
def State.withLink (s : State) (l : LinkRegisters) : State :=
  { s with
    seenRecently := l.seenRecently
    lost := l.lost
    everSeen := l.everSeen
    counter := l.counter
    linkOut := classifyLink s.cfg.graceTicks l.seenRecently l.lost l.everSeen l.counter }

@[simp] theorem withLink_result (s : State) (l : LinkRegisters) : (s.withLink l).result = s.result := rfl
@[simp] theorem withLink_begin (s : State) (l : LinkRegisters) : (s.withLink l).begin = s.begin.withLink l := rfl

/-- Driving the link output commutes with it: either way the output shows the class of `l`. -/
theorem withLink_driveLink_classify (s : State) (l : LinkRegisters) :
    (s.withLink l).driveLink (s.withLink l).classify = (s.driveLink s.classify).withLink l := rfl

/-- A truncated payload is reported beside the frame it came in (R129, R107). -/
@[simp] theorem decodeSample_result_frameOk (payload : List Byte) (s : State) :
    (decodeSample payload s).result.frameOk = s.result.frameOk := by
  unfold decodeSample
  split <;> simp

/-- Of the FrameAssembler's operations only `A.CSUM` on a valid sum touches the LinkWatcher, and that one reports a
frame (R107, R147). -/
theorem AsmEffect.link_eq_of_frameOk_eq_false {lb : LogicalByte} {s t : State} (h : AsmEffect lb s t)
    (hr : t.result.frameOk = false) : t.link = s.link := by
  cases h with
  | frame payload => simp at hr
  | start | nostart | resync | lenhi | lenlo | oversize | data | badSum => simp [State.link]

/-- No guard or value of the FrameAssembler reads the LinkWatcher (R195). -/
theorem AsmEffect.withLink {lb : LogicalByte} {s t : State} (h : AsmEffect lb s t) (hr : t.result.frameOk = false)
    (l : LinkRegisters) : AsmEffect lb (s.withLink l) (t.withLink l) := by
  cases h with
  | frame payload => simp at hr
  | start hpos hv => exact .start hpos hv
  | nostart hpos hv => exact .nostart hpos hv
  | resync hpos hv he => exact .resync hpos hv he
  | lenhi hpos hf => exact .lenhi hpos hf
  | lenlo hpos hf => exact .lenlo hpos hf
  | oversize hpos hmax hf => exact .oversize hpos hmax hf
  | data hpos hmax hlen hf => exact .data hpos hmax hlen hf
  | badSum hpos hmax hlen hf hsum => exact .badSum hpos hmax hlen hf hsum

theorem EventEffect.link_eq_of_frameOk_eq_false {s u : State} {b : Byte} (h : EventEffect s (.raw b) u)
    (hr : u.result.frameOk = false) : u.link = s.link := by
  cases h with
  | escape => rfl
  | deliver _ lb _ hd hu => exact hu.link_eq_of_frameOk_eq_false hr

theorem EventEffect.withLink {s u : State} {b : Byte} (h : EventEffect s (.raw b) u) (hr : u.result.frameOk = false)
    (l : LinkRegisters) : EventEffect (s.withLink l) (.raw b) (u.withLink l) := by
  cases h with
  | escape _ hd => exact .escape b hd
  | deliver _ lb _ hd hu => exact .deliver b lb _ hd (hu.withLink hr l)

/-- R53 on states: if a raw byte's step completes no frame, then from other link registers it is answered as well, with
those registers. -/
theorem perform_raw_withLink {s t : State} {b : Byte} (h : perform (.raw b) s = .next t)
    (hr : t.result.frameOk = false) (l : LinkRegisters) :
    perform (.raw b) (s.withLink l) = .next (t.withLink l) := by
  obtain ⟨u, hu, rfl⟩ := perform_next h
  rw [(hu.withLink hr l).perform_raw_eq, withLink_driveLink_classify]

theorem perform_raw_keeps_link {s t : State} {b : Byte} (h : perform (.raw b) s = .next t)
    (hr : t.result.frameOk = false) : t.link = s.link := by
  obtain ⟨u, hu, rfl⟩ := perform_next h
  exact hu.link_eq_of_frameOk_eq_false hr

/-! ## The two events of the LinkWatcher -/

/-- The LinkWatcher's registers after an update depend on those before it and the parameters alone (R140 to R143). -/
theorem LinkUpdate.apply_link_congr (k : LinkUpdate) {s t : State} (hlink : t.link = s.link) (hcfg : t.cfg = s.cfg) :
    (k.apply t).link = (k.apply s).link := by
  obtain ⟨hseen, hlost, hever, hcount⟩ := LinkRegisters.mk.inj hlink
  cases k with
  | reset | arrival => rfl
  | tick =>
    have hcounter : counterAfterTick t = counterAfterTick s := by
      unfold counterAfterTick
      rw [hseen, hcount, hcfg]
    have hlostTick : lostAfterTick t = lostAfterTick s := by
      unfold lostAfterTick
      rw [hcounter, hlost, hcfg]
    simp [LinkUpdate.apply, State.link, linkTick, hcounter, hlostTick, hever]

/-- A `TICK` or `LRESET` only updates the LinkWatcher, on an all-clear result (R141, R143, R160). -/
theorem perform_link_event {e : Event} (he : e = .tick ∨ e = .lreset) :
    ∃ k : LinkUpdate, ∀ s, perform e s = .next (s.begin.withLink (k.apply s).link) := by
  obtain rfl | rfl := he
  · exact ⟨.tick, perform_tick⟩
  · exact ⟨.reset, perform_lreset⟩

/-- Settles O44: the link event writes the registers that the raw byte neither reads nor changes, so it may come
first. -/
theorem linkEventMovesAcrossAnIncompleteRawByte : Obligations.LinkEventMovesAcrossAnIncompleteRawByte := by
  unfold Obligations.LinkEventMovesAcrossAnIncompleteRawByte
  intro s t u b e he hraw hr hlinkEvent
  obtain ⟨k, hk⟩ := perform_link_event he
  obtain rfl : t.begin.withLink (k.apply t).link = u := Host.Outcome.next.inj ((hk t).symm.trans hlinkEvent)
  have hregs : (k.apply t).link = (k.apply s).link :=
    k.apply_link_congr (perform_raw_keeps_link hraw hr) (perform_keeps_cfg hraw)
  have hmoved := perform_raw_withLink (s := s.begin) hraw hr (k.apply s).link
  refine ⟨_, t.withLink (k.apply s).link, hk s, hmoved, withLink_result t _, ?_⟩
  rw [hregs]
  exact withLink_begin t _

end Sys2Proof.Machine
end

section
/-! SUPPORT. Decoder and encoder against each other (30_encoding.md R61, R68, R69): the decoders on a word given as
tag and octet, one equation per guard, and from these both round trips; the word's two bytes; the codes of R75, R76. -/

namespace Sys2Proof

/-! ## The nine-bit words -/

theorem exists_eq_tagged (w : BitVec 9) : ∃ e v, w = tagged e v :=
  ⟨tagOf w, octetOf w, (tagged_tagOf_octetOf w).symm⟩

/-! ## The ByteDescrambler's decoder (R61) -/

theorem decodeRaw9_tagged_true (b : Byte) : decodeRaw9 (tagged true b) = .dUnesc b := by
  simp [decodeRaw9]

theorem decodeRaw9_tagged_false_escMarker : decodeRaw9 (tagged false escMarker) = .dEsc := by
  simp [decodeRaw9]

theorem decodeRaw9_tagged_false_of_ne {b : Byte} (hb : b ≠ escMarker) : decodeRaw9 (tagged false b) = .dLit b := by
  simp [decodeRaw9, hb]

theorem encode_decodeRaw9 (w : BitVec 9) : encode (decodeRaw9 w) = .raw9 w := by
  obtain ⟨e, b, rfl⟩ := exists_eq_tagged w
  cases e with
  | true => rw [decodeRaw9_tagged_true, encode]
  | false =>
    by_cases hb : b = escMarker
    · rw [hb, decodeRaw9_tagged_false_escMarker, encode]
    · rw [decodeRaw9_tagged_false_of_ne hb, encode]

theorem decodeRaw9_ne_aResync (w : BitVec 9) : decodeRaw9 w ≠ .aResync := fun h =>
  Key.noConfusion ((encode_decodeRaw9 w).symm.trans (congrArg encode h))

theorem decodeRaw9_wellFormed (w : BitVec 9) : (decodeRaw9 w).wellFormed = true := by
  unfold decodeRaw9
  split
  · rfl
  split
  · rfl
  · next hb => simpa [Instr.wellFormed] using hb

/-! ## The FrameAssembler's decoder (R68) -/

/-- The operation that takes the octet of a logical byte at each position: guards 2 and 4 to 8 of R68. Its
`wellFormed` is what is left of the octets after guards 1 and 3. -/
def Phase.octetInstr : Phase → Bool → Byte → Instr
  | .awaitStart => .aNostart
  | .readLengthHigh => .aLenhi
  | .readLengthLow => .aLenlo
  | .overflow => .aOversize
  | .payload => .aData
  | .checksum => .aCsum

theorem encode_octetInstr (ph : Phase) (e : Bool) (v : Byte) : encode (ph.octetInstr e v) = .lb ph (tagged e v) := by
  cases ph <;> rfl

theorem octetInstr_ne_aResync (ph : Phase) (e : Bool) (v : Byte) : ph.octetInstr e v ≠ .aResync := by
  cases ph <;> nofun

theorem octetInstr_awaitStart_wellFormed_iff (e : Bool) (v : Byte) :
    (Phase.awaitStart.octetInstr e v).wellFormed = true ↔ v ≠ startMarker := by
  simp [Phase.octetInstr, Instr.wellFormed]

theorem octetInstr_wellFormed_of_ne_awaitStart {ph : Phase} (hph : ph ≠ .awaitStart) (e : Bool) (v : Byte) :
    (ph.octetInstr e v).wellFormed = notFreshStart e v := by
  cases ph with
  | awaitStart => exact absurd rfl hph
  | readLengthHigh | readLengthLow | overflow | payload | checksum => rfl

theorem decodeLb_awaitStart_startMarker (e : Bool) : decodeLb .awaitStart (tagged e startMarker) = .aStart e := by
  simp [decodeLb]

theorem decodeLb_freshStart {ph : Phase} (hph : ph ≠ .awaitStart) :
    decodeLb ph (tagged false startMarker) = .aResync := by
  cases ph with
  | awaitStart => exact absurd rfl hph
  | readLengthHigh | readLengthLow | overflow | payload | checksum => simp [decodeLb, notFreshStart]

theorem decodeLb_of_octetInstr_wellFormed {ph : Phase} {e : Bool} {v : Byte}
    (h : (ph.octetInstr e v).wellFormed = true) : decodeLb ph (tagged e v) = ph.octetInstr e v := by
  cases ph with
  | awaitStart =>
    have hv := (octetInstr_awaitStart_wellFormed_iff e v).1 h
    simp [decodeLb, Phase.octetInstr, hv]
  | readLengthHigh | readLengthLow | overflow | payload | checksum =>
    have hf : notFreshStart e v = true := h
    simp [decodeLb, Phase.octetInstr, hf]

/-- A word at a position opens an attempt, resynchronises, or gives its octet to the operation of that position. -/
theorem decodeLb_cases (ph : Phase) (w : BitVec 9) :
    (∃ e, ph = .awaitStart ∧ w = tagged e startMarker ∧ decodeLb ph w = .aStart e) ∨
      (ph ≠ .awaitStart ∧ w = tagged false startMarker ∧ decodeLb ph w = .aResync) ∨
      ∃ e v, w = tagged e v ∧ (ph.octetInstr e v).wellFormed = true ∧ decodeLb ph w = ph.octetInstr e v := by
  obtain ⟨e, v, rfl⟩ := exists_eq_tagged w
  by_cases hwf : (ph.octetInstr e v).wellFormed = true
  · exact .inr (.inr ⟨e, v, rfl, hwf, decodeLb_of_octetInstr_wellFormed hwf⟩)
  by_cases hph : ph = .awaitStart
  · subst hph
    obtain rfl : v = startMarker := by simpa [octetInstr_awaitStart_wellFormed_iff] using hwf
    exact .inl ⟨e, rfl, rfl, decodeLb_awaitStart_startMarker e⟩
  · rw [octetInstr_wellFormed_of_ne_awaitStart hph, Bool.not_eq_true] at hwf
    obtain ⟨rfl, rfl⟩ := (notFreshStart_eq_false_iff e v).1 hwf
    exact .inr (.inl ⟨hph, rfl, decodeLb_freshStart hph⟩)

theorem encode_decodeLb {ph : Phase} {w : BitVec 9} (h : decodeLb ph w ≠ .aResync) :
    encode (decodeLb ph w) = .lb ph w := by
  obtain ⟨e, rfl, rfl, hd⟩ | ⟨-, -, hd⟩ | ⟨e, v, rfl, -, hd⟩ := decodeLb_cases ph w
  · rw [hd, encode]
  · exact absurd hd h
  · rw [hd, encode_octetInstr]

theorem decodeLb_eq_aResync_iff (ph : Phase) (w : BitVec 9) :
    decodeLb ph w = .aResync ↔ ph ≠ .awaitStart ∧ w = tagged false startMarker := by
  refine ⟨fun h => ?_, fun ⟨hph, hw⟩ => hw ▸ decodeLb_freshStart hph⟩
  obtain ⟨e, -, -, hd⟩ | ⟨hph, hw, -⟩ | ⟨e, v, -, -, hd⟩ := decodeLb_cases ph w
  · exact Instr.noConfusion (hd.symm.trans h)
  · exact ⟨hph, hw⟩
  · exact absurd (hd.symm.trans h) (octetInstr_ne_aResync ph e v)

theorem decodeLb_wellFormed (ph : Phase) (w : BitVec 9) : (decodeLb ph w).wellFormed = true := by
  obtain ⟨e, -, -, hd⟩ | ⟨-, -, hd⟩ | ⟨e, v, -, hwf, hd⟩ := decodeLb_cases ph w
  · rw [hd, Instr.wellFormed]
  · rw [hd, Instr.wellFormed]
  · rw [hd, hwf]

/-! ## Both round trips -/

/-- Settles O1: each row's key is read back by the equation of its guard. -/
theorem decodeOfEncodeGivesTheInstruction : Obligations.DecodeOfEncodeGivesTheInstruction := by
  unfold Obligations.DecodeOfEncodeGivesTheInstruction
  intro i h
  cases i with
  | dEsc => exact decodeRaw9_tagged_false_escMarker
  | dUnesc b => exact decodeRaw9_tagged_true b
  | dLit b => exact decodeRaw9_tagged_false_of_ne (by simpa [Instr.wellFormed] using h)
  | aStart e => exact decodeLb_awaitStart_startMarker e
  | aResync => exact decodeLb_freshStart (ph := .readLengthHigh) nofun
  | aNostart e v => exact decodeLb_of_octetInstr_wellFormed (ph := .awaitStart) h
  | aLenhi e v => exact decodeLb_of_octetInstr_wellFormed (ph := .readLengthHigh) h
  | aLenlo e v => exact decodeLb_of_octetInstr_wellFormed (ph := .readLengthLow) h
  | aOversize e v => exact decodeLb_of_octetInstr_wellFormed (ph := .overflow) h
  | aData e v => exact decodeLb_of_octetInstr_wellFormed (ph := .payload) h
  | aCsum e v => exact decodeLb_of_octetInstr_wellFormed (ph := .checksum) h
  | sDecode | lArrival | lTick | lReset | lClassify | xReset => rfl

theorem encode_decode_of_ne_aResync {k : Key} (h : decode k ≠ .aResync) : encode (decode k) = k := by
  cases k with
  | raw9 w => exact encode_decodeRaw9 w
  | lb ph w => exact encode_decodeLb h
  | tick | lreset | reset | frameArrival | framePayload | linkOutput => rfl

/-- `A.RESYNC` is the one operation with several keys: guard 3 of R68 stands at every position above 0. -/
theorem decode_eq_aResync_iff (k : Key) :
    decode k = .aResync ↔ ∃ ph, ph ≠ Phase.awaitStart ∧ k = .lb ph (tagged false startMarker) := by
  cases k with
  | lb ph w => simpa [decode] using decodeLb_eq_aResync_iff ph w
  | raw9 w => simpa [decode] using decodeRaw9_ne_aResync w
  | tick | lreset | reset | frameArrival | framePayload | linkOutput => simp [decode]

theorem decode_wellFormed {k : Key} (h : ∀ payload, k = .framePayload payload → payload.length ≤ 65535) :
    (decode k).wellFormed = true := by
  cases k with
  | raw9 w => exact decodeRaw9_wellFormed w
  | lb ph w => exact decodeLb_wellFormed ph w
  | framePayload payload => simpa [decode, Instr.wellFormed] using h payload rfl
  | tick | lreset | reset | frameArrival | linkOutput => rfl

/-- Settles O2: the word `0x07E` is the unescaped start marker. -/
theorem encodeOfDecodeGivesTheKey : Obligations.EncodeOfDecodeGivesTheKey := by
  unfold Obligations.EncodeOfDecodeGivesTheKey
  exact ⟨fun _ => encode_decode_of_ne_aResync, decode_eq_aResync_iff, fun _ => decode_wellFormed⟩

/-! ## Words as bytes (log entry 9) -/

theorem wordOfBytes_bytesOfWord (w : BitVec 9) : wordOfBytes (bytesOfWord w) = .ok w := by
  obtain ⟨e, v, rfl⟩ := exists_eq_tagged w
  cases e <;> simp [wordOfBytes, bytesOfWord]

/-- Two bytes read as a word: the second one is the tag, and so 0 or 1. -/
theorem decodeBytes_pair_ok {lo hi : Byte} {i : Instr} (h : decodeBytes [lo, hi] = .ok i) :
    i = decodeRaw9 (tagged (hi.getLsbD 0) lo) := by
  by_cases h0 : hi = 0#8
  · subst h0
    exact (Except.ok.inj h).symm
  by_cases h1 : hi = 1#8
  · subst h1
    exact (Except.ok.inj h).symm
  · simp [decodeBytes, wordOfBytes, h0, h1] at h

theorem decodeBytes_bitsAboveWord (lo : Byte) {hi : Byte} (h : 1 < hi.toNat) :
    decodeBytes [lo, hi] = .error .bitsAboveWord := by
  have h0 : hi ≠ 0#8 := by rintro rfl; simp at h
  have h1 : hi ≠ 1#8 := by rintro rfl; simp at h
  simp [decodeBytes, wordOfBytes, h0, h1]

/-- A table word that is read is a RAW9 word: bit 8 its tag, bits 7 to 0 its octet. -/
theorem decodeTableWord_eq_some {nbits w : Nat} {i : Instr} (h : decodeTableWord nbits w = some i) :
    i = decodeRaw9 (tagged (w.testBit 8) (BitVec.ofNat 8 w)) := by
  have htag : (BitVec.ofNat 8 (w / 256)).getLsbD 0 = w.testBit 8 := by
    rw [BitVec.getLsbD_ofNat]
    simpa using Nat.testBit_div_two_pow w 0 (n := 8)
  unfold decodeTableWord at h
  split at h
  · cases h
  split at h
  · cases h
  split at h
  · cases h
  split at h
  · next j hj =>
    obtain rfl := Option.some.inj h
    rw [← htag]
    exact decodeBytes_pair_ok hj
  · cases h

/-- Settles O6: the word's bytes read back as the word. -/
theorem bytesOfAWordDecodeToItsOperation : Obligations.BytesOfAWordDecodeToItsOperation := by
  unfold Obligations.BytesOfAWordDecodeToItsOperation
  refine ⟨fun w => ?_, fun lo _ => decodeBytes_bitsAboveWord lo⟩
  simp only [decodeBytes, wordOfBytes_bytesOfWord]

/-- Settles O5: seven fixed words, evaluated by the decoders. -/
theorem wordsOfTheSpecDecode : Obligations.WordsOfTheSpecDecode := by
  unfold Obligations.WordsOfTheSpecDecode
  decide

/-! ## Codes -/

/-- Settles O58: the codes are the model's tables `ErrCode.code` and `LinkState.code`. -/
theorem resultCodesAreTheTables : Obligations.ResultCodesAreTheTables := by
  unfold Obligations.ResultCodesAreTheTables
  exact ⟨⟨rfl, rfl, rfl, rfl, rfl, rfl⟩, rfl, rfl, rfl⟩

end Sys2Proof
end

section
/-! SUPPORT. The decoders in a state: the operation a raw byte or a logical byte selects (R61, R68), that R100's
dispatch performs it, the placed table word, and the signed fields (R71, R72). -/

namespace Sys2Proof.Machine

/-! ## What a raw byte selects (R61) -/

theorem selected_raw_of_pending (b : Byte) {s : State} (h : s.escPending = true) : s.selected (.raw b) = .dUnesc b := by
  rw [selected_raw, h, decodeRaw9_tagged_true]

theorem selected_raw_escMarker {s : State} (h : s.escPending = false) : s.selected (.raw escMarker) = .dEsc := by
  rw [selected_raw, h, decodeRaw9_tagged_false_escMarker]

theorem selected_raw_literal {b : Byte} {s : State} (h : s.escPending = false) (hb : b ≠ escMarker) :
    s.selected (.raw b) = .dLit b := by
  rw [selected_raw, h, decodeRaw9_tagged_false_of_ne hb]

/-- Settles O3: the rows of R61, each with its own guard. -/
theorem rawByteSelectsByEscapeThenValue : Obligations.RawByteSelectsByEscapeThenValue := by
  unfold Obligations.RawByteSelectsByEscapeThenValue
  exact fun _ b => ⟨selected_raw_of_pending b, fun h hb => hb ▸ selected_raw_escMarker h, selected_raw_literal⟩

/-! ## The phase a state is in -/

theorem phase_eq_awaitStart {s : State} (h : s.pos = 0) : s.phase = .awaitStart := by
  simp [State.phase, phaseOf, h]

theorem phase_ne_awaitStart {s : State} (h : s.pos ≠ 0) : s.phase ≠ .awaitStart :=
  fun hph => h ((phaseOf_eq_awaitStart_iff _ _ _).1 hph)

theorem phase_eq_readLengthHigh {s : State} (h : s.pos = 1) : s.phase = .readLengthHigh := by
  simp [State.phase, phaseOf, h]

theorem phase_eq_readLengthLow {s : State} (h : s.pos = 2) : s.phase = .readLengthLow := by
  simp [State.phase, phaseOf, h]

theorem phase_eq_overflow {s : State} (h : 3 ≤ s.pos) (hmax : s.cfg.maxFrame ≤ s.pos) : s.phase = .overflow := by
  rw [State.phase, phaseOf_of_three_le h, if_pos hmax]

theorem phase_eq_payload {s : State} (h : 3 ≤ s.pos) (hmax : s.pos < s.cfg.maxFrame) (hlen : s.pos < s.dlen + 3) :
    s.phase = .payload := by
  rw [State.phase, phaseOf_of_three_le h, if_neg (Nat.not_le.2 hmax), if_pos hlen]

theorem phase_eq_checksum {s : State} (h : 3 ≤ s.pos) (hmax : s.pos < s.cfg.maxFrame) (hlen : s.dlen + 3 ≤ s.pos) :
    s.phase = .checksum := by
  rw [State.phase, phaseOf_of_three_le h, if_neg (Nat.not_le.2 hmax), if_neg (Nat.not_lt.2 hlen)]

/-! ## What a logical byte selects (R68) -/

theorem decode_lbKey_start {lb : LogicalByte} {s : State} (h : s.pos = 0) (hv : lb.v = startMarker) :
    decode (s.lbKey lb) = .aStart lb.escaped := by
  rw [State.lbKey, phase_eq_awaitStart h, hv]
  exact decodeLb_awaitStart_startMarker _

theorem decode_lbKey_nostart {lb : LogicalByte} {s : State} (h : s.pos = 0) (hv : lb.v ≠ startMarker) :
    decode (s.lbKey lb) = .aNostart lb.escaped lb.v := by
  rw [State.lbKey, phase_eq_awaitStart h]
  exact decodeLb_of_octetInstr_wellFormed ((octetInstr_awaitStart_wellFormed_iff _ _).2 hv)

theorem decode_lbKey_resync {lb : LogicalByte} {s : State} (h : s.pos ≠ 0)
    (hc : lb.v = startMarker ∧ lb.escaped = false) : decode (s.lbKey lb) = .aResync := by
  rw [State.lbKey, hc.1, hc.2]
  exact decodeLb_freshStart (phase_ne_awaitStart h)

/-- Past guard 3 the position alone selects. -/
theorem decode_lbKey_octet {lb : LogicalByte} {s : State} {ph : Phase} (hph : s.phase = ph) (h0 : ph ≠ .awaitStart)
    (hc : ¬(lb.v = startMarker ∧ lb.escaped = false)) : decode (s.lbKey lb) = ph.octetInstr lb.escaped lb.v := by
  have hf : notFreshStart lb.escaped lb.v = true := (notFreshStart_eq_true_iff _ _).2 hc
  rw [State.lbKey, hph]
  exact decodeLb_of_octetInstr_wellFormed ((octetInstr_wellFormed_of_ne_awaitStart h0 _ _).trans hf)

/-- Settles O4: the guards fix the phase, and the phase the operation. -/
theorem logicalByteGuardsSelectInOrder : Obligations.LogicalByteGuardsSelectInOrder := by
  unfold Obligations.LogicalByteGuardsSelectInOrder
  intro s lb
  refine ⟨decode_lbKey_start, decode_lbKey_nostart,
    fun h0 hv he => decode_lbKey_resync (Nat.ne_of_gt h0) ⟨hv, he⟩, fun hc => ⟨?_, ?_, ?_, ?_, ?_⟩⟩
  · exact fun h1 => decode_lbKey_octet (phase_eq_readLengthHigh h1) nofun hc
  · exact fun h2 => decode_lbKey_octet (phase_eq_readLengthLow h2) nofun hc
  · exact fun h3 hmax => decode_lbKey_octet (phase_eq_overflow h3 hmax) nofun hc
  · exact fun h3 hmax hlen => decode_lbKey_octet (phase_eq_payload h3 hmax hlen) nofun hc
  · exact fun h3 hmax hlen => decode_lbKey_octet (phase_eq_checksum h3 hmax hlen.ge) nofun hc

/-- Settles O7: in each branch of R100 the guards passed so far are those of the decoder's row. -/
theorem assemblerDispatchAgreesWithTheDecoder : Obligations.AssemblerDispatchAgreesWithTheDecoder := by
  unfold Obligations.AssemblerDispatchAgreesWithTheDecoder
  intro lb s
  unfold asmStep
  split
  · next h => rw [decode_lbKey_start h.1 h.2, exec]
  next hstart =>
  split
  · next h0 => rw [decode_lbKey_nostart h0 fun hv => hstart ⟨h0, hv⟩, exec]
  next h0 =>
  split
  · next hc => rw [decode_lbKey_resync h0 hc, exec]
  next hc =>
  split
  · next h1 => rw [decode_lbKey_octet (phase_eq_readLengthHigh h1) nofun hc, Phase.octetInstr, exec]
  split
  · next h2 => rw [decode_lbKey_octet (phase_eq_readLengthLow h2) nofun hc, Phase.octetInstr, exec]
  have h3 : 3 ≤ s.pos := by omega
  split
  · next hmax => rw [decode_lbKey_octet (phase_eq_overflow h3 hmax) nofun hc, Phase.octetInstr, exec]
  next hmax =>
  have hmax : s.pos < s.cfg.maxFrame := Nat.lt_of_not_le hmax
  split
  · next hlen => rw [decode_lbKey_octet (phase_eq_payload h3 hmax hlen) nofun hc, Phase.octetInstr, exec]
  · next hlen =>
    rw [decode_lbKey_octet (phase_eq_checksum h3 hmax (Nat.le_of_not_lt hlen)) nofun hc, Phase.octetInstr, exec]

/-! ## The placed table word (log entry 9) -/

theorem withFetchWord_of_read {s : State} {nbits w : Nat} {i : Instr} (h : decodeTableWord nbits w = some i) :
    s.withFetchWord nbits w =
      { s with escPending := w.testBit 8, stimulus := .raw (BitVec.ofNat 8 w) :: s.stimulus } := by
  simp [State.withFetchWord, placeWord, h]

/-- Settles O10: the placed byte and flag make up the word again, so the event's own selection reads it. -/
theorem fetchWordRunsTheDecodedOperation : Obligations.FetchWordRunsTheDecodedOperation := by
  unfold Obligations.FetchWordRunsTheDecodedOperation
  intro s nbits w i h
  rw [withFetchWord_of_read h, step_cons rfl, perform, selected_raw, decodeTableWord_eq_some h]
  rfl

/-! ## The signed fields (R71, R72) -/

/-- Settles O24: two's complement of the field's unsigned value. -/
theorem fixedPointAndPressureAreSigned : Obligations.FixedPointAndPressureAreSigned := by
  unfold Obligations.FixedPointAndPressureAreSigned
  intro payload i
  refine ⟨?_, ?_, ?_⟩
  · rw [hundredths, BitVec.toInt_eq_toNat_cond, le16_toNat]
    simp only [Nat.add_zero]
    omega
  · norm_num [fixedPointValue]
  · rw [pressureValue, BitVec.toInt_eq_toNat_cond, le32_toNat]
    simp only [Nat.add_zero]
    omega

end Sys2Proof.Machine
end

section
/-! SUPPORT. The ByteDescrambler (40_descrambler.md): what each of its operations delivers to the FrameAssembler, what
the raw bytes of a run deliver (R96), and where the operations with a `requires` line are refused (log entry 7). -/

namespace Sys2Proof.Machine

/-! ## Delivering a logical byte (R92, R93) -/

/-- With no escape pending, a logical byte is answered by the operation R68 selects for it, and none is pending after. -/
theorem asmStep_delivers (lb : LogicalByte) {s : State} (hs : FrameInv s) (he : s.escPending = false) :
    ∃ t, asmStep lb s = .next t ∧ exec (decode (s.lbKey lb)) s = .next t ∧ t.escPending = false := by
  obtain ⟨t, ht⟩ := asmStep_completes lb hs
  exact ⟨t, ht, (assemblerDispatchAgreesWithTheDecoder lb s).symm.trans ht, (asmStep_next ht).escPending_eq.trans he⟩

/-- Settles O13: the FrameAssembler's operation starts with the flag cleared, and none of them sets it. -/
theorem unescapedByteIsDelivered : Obligations.UnescapedByteIsDelivered := by
  unfold Obligations.UnescapedByteIsDelivered
  intro s b hs he
  obtain ⟨t, ht, hsel, hesc⟩ := asmStep_delivers ⟨unescape b, true⟩ (s := s.setEsc false) hs rfl
  exact ⟨t, (execDUnesc_of_pending b he).trans ht, hsel, hesc⟩

/-- Settles O14: the FrameAssembler's operation starts in the state itself. -/
theorem literalByteIsDelivered : Obligations.LiteralByteIsDelivered := by
  unfold Obligations.LiteralByteIsDelivered
  intro s b hs he hb
  obtain ⟨t, ht, hsel, hesc⟩ := asmStep_delivers ⟨b, false⟩ hs he
  exact ⟨t, (execDLit_of_not_pending he hb).trans ht, hsel, hesc⟩

/-- Settles O12: the guard of `D.ESC` holds. -/
theorem escapePrefixIsTaken : Obligations.EscapePrefixIsTaken := by
  unfold Obligations.EscapePrefixIsTaken
  exact fun _ => execDEsc_of_not_pending

/-! ## The unescaped markers (R96) -/

/-- An unescaped start marker opens an attempt or resynchronises: no operation that takes an octet accepts it. -/
theorem AsmEffect.of_freshStart {s t : State} (h : AsmEffect ⟨startMarker, false⟩ s t) :
    t = s.setPos 1 ∨ t = raise .unexpectedStart s.pos s := by
  cases h with
  | start => exact .inl rfl
  | resync => exact .inr rfl
  | nostart _ hv => exact absurd rfl hv
  | lenhi _ hf | lenlo _ hf | oversize _ _ hf | data _ _ _ hf | frame _ _ _ _ hf | badSum _ _ _ hf =>
    exact absurd ⟨rfl, rfl⟩ ((notFreshStart_eq_true_iff _ _).1 hf)

/-- With no escape pending the two markers never reach an operation that stores an octet: 0x7D is delivered to none. -/
theorem EventEffect.of_unescaped_marker {s u : State} {b : Byte} (h : EventEffect s (.raw b) u)
    (he : s.escPending = false) (hb : b = startMarker ∨ b = escMarker) :
    b = escMarker ∧ u = s.begin.setEsc true ∨
      u = (s.begin.setEsc false).setPos 1 ∨ u = raise .unexpectedStart s.pos (s.begin.setEsc false) := by
  obtain rfl | rfl := hb
  · have hd : descramble s.escPending startMarker = (false, some ⟨startMarker, false⟩) := by
      have hne : startMarker ≠ escMarker := by decide
      simp [descramble, he, hne]
    cases h with
    | escape _ hd' => exact absurd (hd.symm.trans hd') nofun
    | deliver _ lb _ hd' hu =>
      obtain rfl : ⟨startMarker, false⟩ = lb := Option.some.inj (Prod.mk.inj (hd.symm.trans hd')).2
      exact .inr hu.of_freshStart
  · have hd : descramble s.escPending escMarker = (true, none) := by simp [descramble, he]
    cases h with
    | escape => exact .inl ⟨rfl, rfl⟩
    | deliver _ lb _ hd' => exact absurd (hd.symm.trans hd') nofun

/-- Settles O54: `D.ESC`, `A.START` and `A.RESYNC` store no octet; the last two leave `pos` at 1. -/
theorem unescapedMarkersAreNeverStored : Obligations.UnescapedMarkersAreNeverStored := by
  unfold Obligations.UnescapedMarkersAreNeverStored
  intro s t b he hb h
  obtain ⟨u, hu, rfl⟩ := perform_next h
  obtain ⟨rfl, rfl⟩ | rfl | rfl := hu.of_unescaped_marker he hb
  · exact ⟨.inl ⟨rfl, rfl, rfl, rfl⟩, nofun⟩
  · exact ⟨.inl ⟨rfl, rfl, rfl, rfl⟩, fun _ => rfl⟩
  · exact ⟨.inr ⟨rfl, rfl, rfl, rfl⟩, fun _ => rfl⟩

/-! ## What a raw byte delivers (R61, R90) -/

/-- The rows of R61, each with its guard. -/
theorem selected_raw_cases (s : State) (b : Byte) :
    (s.escPending = false ∧ b = escMarker ∧ s.selected (.raw b) = .dEsc) ∨
      (s.escPending = true ∧ s.selected (.raw b) = .dUnesc b) ∨
      (s.escPending = false ∧ b ≠ escMarker ∧ s.selected (.raw b) = .dLit b) := by
  cases he : s.escPending with
  | true => exact .inr (.inl ⟨rfl, selected_raw_of_pending b he⟩)
  | false =>
    by_cases hb : b = escMarker
    · exact .inl ⟨rfl, hb, hb ▸ selected_raw_escMarker he⟩
    · exact .inr (.inr ⟨rfl, hb, selected_raw_literal he hb⟩)

/-- The operation selected delivers what the descrambler makes of the byte. -/
theorem deliveredBy_selected_raw (s : State) (b : Byte) :
    deliveredBy (s.selected (.raw b)) = (descramble s.escPending b).2 := by
  obtain ⟨he, hb, hsel⟩ | ⟨he, hsel⟩ | ⟨he, hb, hsel⟩ := selected_raw_cases s b
  · rw [hsel]
    simp [descramble, he, hb]
  · rw [hsel]
    simp [descramble, he]
  · rw [hsel]
    simp [descramble, he, hb]

/-- `D.ESC` delivers nothing; either other operation delivers a byte that is no unescaped escape marker. -/
theorem selected_raw_eq_dEsc_or_delivers (s : State) (b : Byte) :
    (s.escPending = false ∧ s.selected (.raw b) = .dEsc) ∨
      ∃ lb, s.selected (.raw b) ≠ .dEsc ∧ deliveredBy (s.selected (.raw b)) = some lb ∧
        (lb.escaped = false → lb.v ≠ escMarker) ∧
        exec (s.selected (.raw b)) s = asmStep lb (s.setEsc false) := by
  obtain ⟨he, -, hsel⟩ | ⟨he, hsel⟩ | ⟨he, hb, hsel⟩ := selected_raw_cases s b
  · exact .inl ⟨he, hsel⟩
  · rw [hsel]
    exact .inr ⟨⟨unescape b, true⟩, nofun, rfl, nofun, execDUnesc_of_pending b he⟩
  · rw [hsel]
    refine .inr ⟨⟨b, false⟩, nofun, rfl, fun _ => hb, ?_⟩
    rw [setEsc_eq_self he]
    exact execDLit_of_not_pending he hb

/-! ## What a run of raw bytes delivers (R96) -/

theorem logicalStream_cons (esc : Bool) (b : Byte) (bs : List Byte) :
    logicalStream esc (b :: bs) = (descramble esc b).2.toList ++ logicalStream (descramble esc b).1 bs := by
  rw [logicalStream]
  split <;> simp_all

/-- Every operation of a run is the one its event selects in some state. -/
theorem exists_selected_of_mem_selections {i : Instr} {es : List Event} {s : State} (h : i ∈ selections es s) :
    ∃ u : State, ∃ e ∈ es, i = u.selected e := by
  induction es generalizing s with
  | nil => cases h
  | cons e es ih =>
    obtain rfl | h := List.mem_cons.1 h
    · exact ⟨s, e, List.mem_cons_self .., rfl⟩
    · split at h
      · obtain ⟨u, e', he', hi⟩ := ih h
        exact ⟨u, e', List.mem_cons_of_mem _ he', hi⟩
      · cases h
      · cases h

theorem exists_selected_raw_of_mem_selections {i : Instr} {bs : List Byte} {s : State}
    (h : i ∈ selections (batch bs) s) : ∃ (u : State) (b : Byte), i = u.selected (.raw b) := by
  obtain ⟨u, e, he, hi⟩ := exists_selected_of_mem_selections h
  obtain ⟨b, -, rfl⟩ := List.mem_map.1 he
  exact ⟨u, b, hi⟩

/-- In the reachable states no step stops, so a run selects one operation per event. -/
theorem length_selections (es : List Event) {s : State} (hs : BlockInv s) : (selections es s).length = es.length := by
  induction es generalizing s with
  | nil => rfl
  | cons e es ih =>
    obtain ⟨t, ht⟩ := perform_completes e hs.frameInv
    rw [selections_cons_of_next es ht, List.length_cons, List.length_cons, ih (perform_keeps_blockInv hs ht)]

/-- The operations of a run deliver the descrambler's stream: each step leaves the flag the descrambler leaves. -/
theorem filterMap_deliveredBy_selections (bs : List Byte) {s : State} (hs : BlockInv s) :
    (selections (batch bs) s).filterMap deliveredBy = logicalStream s.escPending bs := by
  induction bs generalizing s with
  | nil => rfl
  | cons b bs ih =>
    obtain ⟨t, ht⟩ := perform_completes (.raw b) hs.frameInv
    obtain ⟨hesc, -⟩ := deliveredByteLeavesNoEscapePending s t b ht
    have hops : selections (batch (b :: bs)) s = s.selected (.raw b) :: selections (batch bs) t :=
      selections_cons_of_next _ ht
    have hrest := ih (perform_keeps_blockInv hs ht)
    rw [hops, logicalStream_cons, List.filterMap_cons, deliveredBy_selected_raw, hrest, hesc]
    cases (descramble s.escPending b).2 <;> rfl

/-- Where `D.ESC` alone delivers nothing, the bytes delivered and the `D.ESC` operations make up all operations. -/
theorem length_filterMap_deliveredBy_add_count {ops : List Instr}
    (h : ∀ i ∈ ops, i = .dEsc ∨ i ≠ .dEsc ∧ (deliveredBy i).isSome) :
    (ops.filterMap deliveredBy).length + ops.count .dEsc = ops.length := by
  induction ops with
  | nil => rfl
  | cons i ops ih =>
    obtain ⟨hi, hops⟩ := List.forall_mem_cons.1 h
    have ih := ih hops
    obtain rfl | ⟨hne, hsome⟩ := hi
    · simp only [List.filterMap_cons, deliveredBy_dEsc, List.count_cons_self, List.length_cons]
      omega
    · obtain ⟨lb, hlb⟩ := Option.isSome_iff_exists.1 hsome
      simp only [List.filterMap_cons, hlb, List.count_cons_of_ne hne, List.length_cons]
      omega

/-- Settles O55: both parts rest on the split of the selected operations into `D.ESC` and those that deliver. -/
theorem logicalStreamHasNoUnescapedEscapeMarker : Obligations.LogicalStreamHasNoUnescapedEscapeMarker := by
  unfold Obligations.LogicalStreamHasNoUnescapedEscapeMarker
  refine ⟨fun s b => ?_, fun s bs hs => ⟨filterMap_deliveredBy_selections bs hs, fun lb hlb => ?_, ?_⟩⟩
  · obtain ⟨he, hsel⟩ | hdelivers := selected_raw_eq_dEsc_or_delivers s b
    · rw [hsel]
      exact .inl ⟨rfl, rfl, execDEsc_of_not_pending he⟩
    · exact .inr hdelivers
  · obtain ⟨i, hi, hdel⟩ := List.mem_filterMap.1 hlb
    obtain ⟨u, b, rfl⟩ := exists_selected_raw_of_mem_selections hi
    obtain ⟨-, hsel⟩ | ⟨lb', -, hdel', hmarker, -⟩ := selected_raw_eq_dEsc_or_delivers u b
    · rw [hsel] at hdel
      cases hdel
    · obtain rfl : lb' = lb := Option.some.inj (hdel'.symm.trans hdel)
      exact hmarker
  · rw [length_filterMap_deliveredBy_add_count, length_selections _ hs, batch, List.length_map]
    intro i hi
    obtain ⟨u, b, rfl⟩ := exists_selected_raw_of_mem_selections hi
    obtain ⟨-, hsel⟩ | ⟨lb, hne, hdel, -⟩ := selected_raw_eq_dEsc_or_delivers u b
    · exact .inl hsel
    · exact .inr ⟨hne, by simp [hdel]⟩

/-! ## Refusals (log entry 7) -/

/-- An operation whose body never refuses by its own name is refused by it exactly where its guard fails. -/
theorem requires_eq_refused_iff {ok : Bool} {mn : String} {o : Answer} {p : Prop} (hok : ok = true ↔ p)
    (ho : o ≠ .refused (.operationNotSelected mn)) :
    requires ok mn o = .refused (.operationNotSelected mn) ↔ ¬p := by
  rw [← hok]
  cases ok <;> simp [requires, ho]

/-- A store is done or faults. -/
theorem andThen_memWrite_next_ne_refused (a : Nat) (v : Byte) (s : State) (f : State → State) (r : Refusal) :
    (andThen (memWrite a v s) fun t => .next (f t)) ≠ .refused r := by
  unfold memWrite
  split <;> nofun

/-- `A.CSUM` refuses under its own name alone. -/
theorem execACsum_refused {e : Bool} {v : Byte} {s : State} {r : Refusal} (h : execACsum e v s = .refused r) :
    r = .operationNotSelected "A.CSUM" := by
  unfold execACsum requires at h
  split at h
  · repeat' split at h
    all_goals cases h
  · exact (Host.Outcome.refused.inj h).symm

/-- R100's guards leave every operation but `A.CSUM` its own guard, so a delivered byte is refused by no other name
(log entry 8). -/
theorem asmStep_refused {lb : LogicalByte} {s : State} {r : Refusal} (h : asmStep lb s = .refused r) :
    r = .operationNotSelected "A.CSUM" := by
  unfold asmStep at h
  split at h
  · next hc => exact nomatch (execAStart_of_guard _ hc.1).symm.trans h
  next hc =>
  split at h
  · next h0 => exact nomatch (execANostart_of_guard _ h0 fun hv => hc ⟨h0, hv⟩).symm.trans h
  next h0 =>
  split at h
  · exact nomatch (execAResync_of_guard (Nat.pos_of_ne_zero h0)).symm.trans h
  next hc =>
  have hf : notFreshStart lb.escaped lb.v = true := (notFreshStart_eq_true_iff _ _).2 hc
  split at h
  · next h1 => exact nomatch (execALenhi_of_guard h1 hf).symm.trans h
  split at h
  · next h2 => exact nomatch (execALenlo_of_guard h2 hf).symm.trans h
  have h3 : 3 ≤ s.pos := by omega
  split at h
  · next hmax => exact nomatch (execAOversize_of_guard h3 hmax hf).symm.trans h
  next hmax =>
  split at h
  · next hlt => exact nomatch (execAData_of_guard h3 (Nat.lt_of_not_le hmax) hlt hf).symm.trans h
  · exact execACsum_refused h

theorem asmStep_ne_refused {lb : LogicalByte} {s : State} {mn : String} (hmn : mn ≠ "A.CSUM") :
    asmStep lb s ≠ .refused (.operationNotSelected mn) :=
  fun h => hmn (Refusal.operationNotSelected.inj (asmStep_refused h))

/-- Settles O36: each operation is its guard over a body that does not refuse by the operation's name. -/
theorem operationsOffTheirGuardAreRefused : Obligations.OperationsOffTheirGuardAreRefused := by
  unfold Obligations.OperationsOffTheirGuardAreRefused
  intro s e v fresh
  have hfresh : notFreshStart e v = true ↔ ¬fresh := notFreshStart_eq_true_iff e v
  refine ⟨?dEsc, ?dUnesc, ?dLit, ?aStart, ?aNostart, ?aResync, ?aLenhi, ?aLenlo, ?aOversize, ?aData, ?aCsum⟩
  case dEsc => exact requires_eq_refused_iff (by simp) nofun
  case dUnesc => exact requires_eq_refused_iff Iff.rfl (asmStep_ne_refused (by decide))
  case dLit => exact requires_eq_refused_iff (by simp) (asmStep_ne_refused (by decide))
  case aStart => exact requires_eq_refused_iff (by simp) nofun
  case aNostart => exact requires_eq_refused_iff (by simp) nofun
  case aResync => exact requires_eq_refused_iff (by simp) nofun
  case aLenhi => exact requires_eq_refused_iff (by simp [hfresh]) nofun
  case aLenlo => exact requires_eq_refused_iff (by simp [hfresh]) nofun
  case aOversize => exact requires_eq_refused_iff (by simp [hfresh, and_assoc]) nofun
  case aData =>
    exact requires_eq_refused_iff (by simp [hfresh, and_assoc]) (andThen_memWrite_next_ne_refused _ _ _ _ _)
  case aCsum =>
    refine requires_eq_refused_iff (by simp [hfresh, and_assoc]) ?_
    repeat' split
    all_goals nofun

end Sys2Proof.Machine
end

section
/-! SUPPORT. The FrameAssembler (41_frame_assembler.md): its operations as record updates on the fields of R10, what
the raw bytes of a whole frame do from any state (R115), and that `TICK` and `LRESET` leave an open attempt waiting
(R114). -/

namespace Sys2Proof.Machine

/-! ## The operations under their guards (R101 to R106, R108) -/

/-- Settles O15: the tag plays no part in the guard. -/
theorem startMarkerOpensAnAttempt : Obligations.StartMarkerOpensAnAttempt := by
  unfold Obligations.StartMarkerOpensAnAttempt
  exact fun _ e hpos => execAStart_of_guard e hpos

/-- Settles O16: the entry of `E_NO_START` changes no register (R190). -/
theorem noiseByteIsReported : Obligations.NoiseByteIsReported := by
  unfold Obligations.NoiseByteIsReported
  exact fun s e v hpos hv => (execANostart_of_guard e hpos hv).trans (congrArg _ (raise_noStart v.toNat s))

/-- Settles O17: `clear; pos <- 1` is the entry of `E_UNEXPECTED_START` (R190). -/
theorem freshStartMarkerResynchronises : Obligations.FreshStartMarkerResynchronises := by
  unfold Obligations.FreshStartMarkerResynchronises
  exact fun s hpos => (execAResync_of_guard hpos).trans (congrArg _ (raise_unexpectedStart s.pos s))

/-- Settles O18: any octet but an unescaped start marker passes the guard. -/
theorem highLengthOctetIsTaken : Obligations.HighLengthOctetIsTaken := by
  unfold Obligations.HighLengthOctetIsTaken
  exact fun s e v hpos hc => execALenhi_of_guard hpos ((notFreshStart_eq_true_iff e v).2 hc)

/-- Settles O19: the declared length is read off the two octets (R64). -/
theorem lowLengthOctetIsTaken : Obligations.LowLengthOctetIsTaken := by
  unfold Obligations.LowLengthOctetIsTaken
  intro s e v hpos hc
  refine ⟨_, execALenlo_of_guard hpos ((notFreshStart_eq_true_iff e v).2 hc), rfl, ?_⟩
  simp [State.dlen, Nat.mul_comm]

/-- Settles O20: `clear` is the entry of `E_OVERSIZE` (R190), whose info is the declared length. -/
theorem oversizeAttemptIsAbandoned : Obligations.OversizeAttemptIsAbandoned := by
  unfold Obligations.OversizeAttemptIsAbandoned
  intro s e v hpos hmax hc
  have hdlen : s.dlen = 256 * s.lenHi.toNat + s.lenLo.toNat := by rw [State.dlen, Nat.mul_comm]
  rw [← hdlen]
  exact (execAOversize_of_guard hpos hmax ((notFreshStart_eq_true_iff e v).2 hc)).trans
    (congrArg _ (raise_oversize s.dlen s))

/-- Settles O21: the buffer's laws say what the cell written and the others read as. -/
theorem payloadOctetIsStored : Obligations.PayloadOctetIsStored := by
  unfold Obligations.PayloadOctetIsStored
  intro s e v hpos hmax hlen hc
  refine ⟨_, execAData_of_guard hpos hmax hlen ((notFreshStart_eq_true_iff e v).2 hc), ?_, ?_, ?_, rfl⟩
  · exact Memory.lookup_write_same s.buf (s.pos - 3) v
  · exact fun a ha => Memory.lookup_write_other s.buf (s.pos - 3) a v ha
  · exact BitVec.toNat_add s.csum v

/-! ## The checksum octet (R107) -/

/-- Where the payload's cells read its octets, `MemRead` answers the payload. -/
theorem memRead_of_lookup {s : State} {payload : List Byte} (hlen : payload.length = s.dlen)
    (hcells : ∀ i, i < s.dlen → s.buf.lookup i = payload[i]?) : memRead 0 s.dlen s = .ok payload := by
  refine (memRead_eq_ok_iff _ _ _ _).2 ⟨hlen, fun i hi => ?_⟩
  rw [Nat.zero_add, hcells i (hlen ▸ hi), List.getElem?_eq_getElem hi]

/-- Settles O22: both sums, and on a valid one both outcomes of `S.DECODE` (R129). -/
theorem checksumOctetFinishesTheFrame : Obligations.ChecksumOctetFinishesTheFrame := by
  unfold Obligations.ChecksumOctetFinishesTheFrame
  intro s e v payload hpos hmax hc hlen hcells
  have hpos3 : 3 ≤ s.pos := by omega
  have hf : notFreshStart e v = true := (notFreshStart_eq_true_iff e v).2 hc
  by_cases hsum : s.csum + v = csumOk
  · refine (execACsum_of_valid hpos3 hmax hpos hf hsum (memRead_of_lookup hlen hcells)).trans (congrArg _ ?_)
    rw [if_pos hsum]
    by_cases hshort : payload.length < s.cfg.minPayloadLen
    · rw [decodeSample_short _ (linkArrival (s.emitFrame payload)) hshort]
      exact (if_pos hshort).symm
    · rw [decodeSample_long _ (linkArrival (s.emitFrame payload)) (Nat.le_of_not_lt hshort)]
      exact (if_neg hshort).symm
  · refine (execACsum_of_invalid hpos3 hmax hpos hf hsum).trans (congrArg _ ?_)
    rw [if_neg hsum, raise_checksum, BitVec.toNat_add]

/-- What a valid frame leaves when its payload is too short to decode. -/
theorem validFrame_of_short {s : State} {payload : List Byte} (h : payload.length < s.cfg.minPayloadLen) :
    let t := (decodeSample payload (linkArrival (s.emitFrame payload))).clear
    t.result = { s.result with frameOk := true, frame := some payload, err := .truncated, info := payload.length } ∧
      t.framePath = ⟨s.escPending, 0, 0, 0, 0, [], s.sampleValid, s.sample⟩ ∧ t.link = ⟨true, false, true, 0⟩ := by
  rw [decodeSample_short _ (linkArrival (s.emitFrame payload)) h]
  exact ⟨rfl, rfl, rfl⟩

/-- What a valid frame leaves when its payload decodes. -/
theorem validFrame_of_long {s : State} {payload : List Byte} (h : s.cfg.minPayloadLen ≤ payload.length) :
    let t := (decodeSample payload (linkArrival (s.emitFrame payload))).clear
    t.result = { s.result with frameOk := true, frame := some payload, sampleOk := true } ∧
      t.framePath = ⟨s.escPending, 0, 0, 0, 0, [], true, some (Sample.ofPayload s.cfg.fieldBase payload)⟩ ∧
      t.link = ⟨true, false, true, 0⟩ := by
  rw [decodeSample_long _ (linkArrival (s.emitFrame payload)) h]
  exact ⟨rfl, rfl, rfl⟩

@[simp] theorem raise_checksum_framePath (n : Nat) (s : State) :
    (raise .checksum n s).framePath = ⟨s.escPending, 0, 0, 0, 0, [], s.sampleValid, s.sample⟩ := rfl

/-! ## Runs of events -/

@[simp] theorem begin_begin (s : State) : s.begin.begin = s.begin := rfl

theorem performAll_cons_of_next {e : Event} {s t : State} (es : List Event) (h : perform e s = .next t) :
    performAll (e :: es) s = performAll es t := by
  simp [performAll, h]

theorem performAll_batch_append_of_next {xs : List Byte} {s t : State} (ys : List Byte)
    (h : performAll (batch xs) s = .next t) : performAll (batch (xs ++ ys)) s = performAll (batch ys) t := by
  rw [batch, List.map_append]
  exact (performAll_append _ _ s).trans (congrArg (andThen · _) h)

@[simp] theorem withLink_framePath (s : State) (l : LinkRegisters) : (s.withLink l).framePath = s.framePath := rfl
@[simp] theorem withLink_cfg (s : State) (l : LinkRegisters) : (s.withLink l).cfg = s.cfg := rfl

/-- Settles O41: each of the events only rewrites the LinkWatcher's registers, on an all-clear result. -/
theorem ticksAndLinkResetsLeaveTheFramePath : Obligations.TicksAndLinkResetsLeaveTheFramePath := by
  unfold Obligations.TicksAndLinkResetsLeaveTheFramePath
  intro es s hes
  induction es generalizing s with
  | nil => exact ⟨s, rfl, rfl, rfl⟩
  | cons e es ih =>
    obtain ⟨he, hes⟩ := List.forall_mem_cons.1 hes
    obtain ⟨k, hk⟩ := perform_link_event he
    obtain ⟨t, ht, hpath, hcfg⟩ := ih (s.begin.withLink (k.apply s).link) hes
    exact ⟨t, (performAll_cons_of_next es (hk s)).trans ht, by simpa using hpath, by simpa using hcfg⟩

/-! ## The octets of a frame, stuffed (R66) -/

theorem stuff_cons (v : Byte) (vs : List Byte) : stuff (v :: vs) = stuffByte v ++ stuff vs := rfl

theorem unescape_xor_escMask (v : Byte) : unescape (v ^^^ escMask) = v := by
  rw [unescape, BitVec.xor_assoc, BitVec.xor_self, BitVec.xor_zero]

/-- An output that already shows `classify()` is left as it is. -/
theorem driveLink_classify_eq_self {s : State} (h : s.linkOut = s.classify) : s.driveLink s.classify = s := by
  rw [← h]
  rfl

/-- The part of the block's invariant that is about the output `link_state` (R24, R168). -/
theorem BlockInv.linkOut_eq_classify {s : State} (h : BlockInv s) : s.linkOut = s.classify := by
  obtain ⟨-, -, -, -, -, -, hout⟩ := h
  exact hout

/-- R66 against R90: the raw spelling of an octet is delivered as that octet, and never as an unescaped start marker, so
the FrameAssembler does what it does with such a byte. -/
theorem performAll_stuffByte {s u : State} {v : Byte} (he : s.escPending = false) (hout : s.linkOut = s.classify)
    (h : ∀ e, notFreshStart e v = true → AsmEffect ⟨v, e⟩ s.begin u) :
    performAll (batch (stuffByte v)) s = .next (u.driveLink u.classify) := by
  have hbegin : s.begin.setEsc false = s.begin := setEsc_eq_self he
  unfold stuffByte
  split
  · have hesc : EventEffect s (.raw escMarker) (s.begin.setEsc true) := .escape _ (by simp [descramble, he])
    refine (performAll_cons_of_next _ hesc.perform_raw_eq).trans (performAll_cons_of_next [] ?_)
    refine EventEffect.perform_raw_eq (.deliver _ ⟨v, true⟩ _ ?_ ?_)
    · simp [descramble, unescape_xor_escMask]
    · have hflags : ((s.begin.setEsc true).driveLink s.classify).begin.setEsc false = s.begin :=
        calc ((s.begin.setEsc true).driveLink s.classify).begin.setEsc false
          _ = (s.driveLink s.classify).begin.setEsc false := rfl
          _ = s.begin := by rw [driveLink_classify_eq_self hout, hbegin]
      exact hflags.symm ▸ h true (by simp [notFreshStart])
  · next hv =>
    obtain ⟨hstart, hesc⟩ := not_or.1 hv
    refine performAll_cons_of_next [] (EventEffect.perform_raw_eq (.deliver _ ⟨v, false⟩ _ ?_ ?_))
    · simp [descramble, he, hesc]
    · rw [hbegin]
      exact h false (by simp [notFreshStart, hstart])

/-! ## The attempt a frame's octets build up (R101 to R106) -/

/-- The state `s` with an attempt open: the position, the length octets and the payload octets taken so far, stored in
order (R15, R41) and summed (R14). -/
def State.attempt (s : State) (pos : Nat) (hi lo : Byte) (octets : List Byte) : State :=
  { s with
    pos := pos
    lenHi := hi
    lenLo := lo
    csum := octetSum octets
    buf := (List.range octets.length).zip octets }

@[simp] theorem attempt_cfg (s : State) (pos : Nat) (hi lo : Byte) (octets : List Byte) :
    (s.attempt pos hi lo octets).cfg = s.cfg := rfl
@[simp] theorem attempt_escPending (s : State) (pos : Nat) (hi lo : Byte) (octets : List Byte) :
    (s.attempt pos hi lo octets).escPending = s.escPending := rfl
@[simp] theorem attempt_sampleValid (s : State) (pos : Nat) (hi lo : Byte) (octets : List Byte) :
    (s.attempt pos hi lo octets).sampleValid = s.sampleValid := rfl
@[simp] theorem attempt_sample (s : State) (pos : Nat) (hi lo : Byte) (octets : List Byte) :
    (s.attempt pos hi lo octets).sample = s.sample := rfl
@[simp] theorem attempt_link (s : State) (pos : Nat) (hi lo : Byte) (octets : List Byte) :
    (s.attempt pos hi lo octets).link = s.link := rfl
@[simp] theorem attempt_result (s : State) (pos : Nat) (hi lo : Byte) (octets : List Byte) :
    (s.attempt pos hi lo octets).result = s.result := rfl
@[simp] theorem attempt_begin (s : State) (pos : Nat) (hi lo : Byte) (octets : List Byte) :
    (s.attempt pos hi lo octets).begin = s.begin.attempt pos hi lo octets := rfl
@[simp] theorem attempt_dlen (s : State) (pos : Nat) (hi lo : Byte) (octets : List Byte) :
    (s.attempt pos hi lo octets).dlen = hi.toNat * 256 + lo.toNat := rfl

theorem attempt_buf_fst (s : State) (pos : Nat) (hi lo : Byte) (octets : List Byte) :
    (s.attempt pos hi lo octets).buf.map Prod.fst = List.range octets.length :=
  List.map_fst_zip (by simp)

theorem attempt_buf_snd (s : State) (pos : Nat) (hi lo : Byte) (octets : List Byte) :
    (s.attempt pos hi lo octets).buf.map Prod.snd = octets :=
  List.map_snd_zip (by simp)

/-- Taking a payload octet (R106) extends the attempt by it. -/
theorem attempt_take_octet (s : State) (hi lo v : Byte) (octets : List Byte) :
    { s.attempt (octets.length + 3) hi lo octets with
        buf := (s.attempt (octets.length + 3) hi lo octets).buf.write octets.length v
        csum := octetSum octets + v
        pos := octets.length + 3 + 1 } =
      s.attempt ((octets ++ [v]).length + 3) hi lo (octets ++ [v]) := by
  have hbuf := Memory.write_next (attempt_buf_fst s (octets.length + 3) hi lo octets) v
  have hzip : (List.range (octets ++ [v]).length).zip (octets ++ [v]) =
      (List.range octets.length).zip octets ++ [(octets.length, v)] := by
    rw [List.length_append, List.length_singleton, List.range_succ, List.zip_append (by simp)]
    rfl
  rw [hbuf, State.attempt, State.attempt, hzip]
  simp [octetSum_append, octetSum, Nat.add_right_comm]

/-- With nothing taken, the attempt is the position alone. -/
theorem setPos_eq_attempt {s : State} (p : Nat) (hhi : s.lenHi = 0) (hlo : s.lenLo = 0) (hcsum : s.csum = 0)
    (hbuf : s.buf = []) : s.setPos p = s.attempt p 0 0 [] := by
  show { s with pos := p, lenHi := s.lenHi, lenLo := s.lenLo, csum := s.csum, buf := s.buf } = _
  rw [hhi, hlo, hcsum, hbuf]
  rfl

/-- An unescaped start marker leaves an attempt at position 1 with nothing taken, whatever attempt was open (R101,
R103). -/
theorem AsmEffect.exists_freshStart {s : State} (hs : FrameInv s) :
    ∃ r, AsmEffect ⟨startMarker, false⟩ s ({ s with result := r }.attempt 1 0 0 []) := by
  by_cases hpos : s.pos = 0
  · obtain ⟨-, hcsum, hbuf, hlen⟩ := (frameInv_iff_of_pos_le_three (hpos ▸ Nat.zero_le 3)).1 hs
    obtain ⟨hhi, hlo⟩ := hlen hpos
    exact ⟨s.result, setPos_eq_attempt 1 hhi hlo hcsum hbuf ▸ .start hpos rfl⟩
  · exact ⟨_, .resync (Nat.pos_of_ne_zero hpos) rfl rfl⟩

theorem perform_raw_startMarker {s : State} (hs : BlockInv s) (he : s.escPending = false) :
    ∃ r, perform (.raw startMarker) s = .next ({ s with result := r }.attempt 1 0 0 []) := by
  have hd : descramble s.escPending startMarker = (false, some ⟨startMarker, false⟩) := by
    have hne : startMarker ≠ escMarker := by decide
    simp [descramble, he, hne]
  have hout := hs.linkOut_eq_classify
  have hbegin : s.begin.setEsc false = s.begin := setEsc_eq_self he
  obtain ⟨r, hr⟩ := AsmEffect.exists_freshStart (s := s.begin) hs.frameInv
  have hdeliver : EventEffect s (.raw startMarker) ({ s with result := r }.attempt 1 0 0 []) :=
    .deliver _ _ _ hd (by rw [hbegin]; exact hr)
  refine ⟨r, hdeliver.perform_raw_eq.trans (congrArg _ ?_)⟩
  exact driveLink_classify_eq_self (s := { s with result := r }.attempt 1 0 0 []) hout

/-! ## The octets in turn -/

section Attempt

variable {s : State} (he : s.escPending = false) (hout : s.linkOut = s.classify)
include he hout

theorem performAll_attempt {v : Byte} {pos pos' : Nat} {hi hi' lo lo' : Byte} {octets octets' : List Byte}
    (h : ∀ e, notFreshStart e v = true →
      AsmEffect ⟨v, e⟩ (s.begin.attempt pos hi lo octets) (s.begin.attempt pos' hi' lo' octets')) :
    performAll (batch (stuffByte v)) (s.attempt pos hi lo octets) = .next (s.begin.attempt pos' hi' lo' octets') :=
  (performAll_stuffByte (s := s.attempt pos hi lo octets) he hout h).trans
    (congrArg _ (driveLink_classify_eq_self (s := s.begin.attempt pos' hi' lo' octets') hout))

theorem performAll_lenHi (v : Byte) :
    performAll (batch (stuffByte v)) (s.attempt 1 0 0 []) = .next (s.begin.attempt 2 v 0 []) :=
  performAll_attempt he hout fun _ hf => .lenhi rfl hf

theorem performAll_lenLo (hi v : Byte) :
    performAll (batch (stuffByte v)) (s.attempt 2 hi 0 []) = .next (s.begin.attempt 3 hi v []) :=
  performAll_attempt he hout fun _ hf => .lenlo rfl hf

theorem performAll_data {hi lo : Byte} {octets : List Byte} (v : Byte) (hmax : octets.length + 3 < s.cfg.maxFrame)
    (hlen : octets.length < hi.toNat * 256 + lo.toNat) :
    performAll (batch (stuffByte v)) (s.attempt (octets.length + 3) hi lo octets) =
      .next (s.begin.attempt ((octets ++ [v]).length + 3) hi lo (octets ++ [v])) := by
  refine performAll_attempt he hout fun e hf => ?_
  rw [← attempt_take_octet]
  exact .data (Nat.le_add_left 3 _) hmax (Nat.add_lt_add_right hlen 3) hf

/-- A payload within the declared length and the bound is taken octet by octet. -/
theorem performAll_payload {hi lo : Byte} (taken payload : List Byte)
    (hmax : taken.length + payload.length + 3 ≤ s.cfg.maxFrame)
    (hlen : taken.length + payload.length ≤ hi.toNat * 256 + lo.toNat) :
    performAll (batch (stuff payload)) (s.begin.attempt (taken.length + 3) hi lo taken) =
      .next (s.begin.attempt ((taken ++ payload).length + 3) hi lo (taken ++ payload)) := by
  induction payload generalizing taken with
  | nil => rw [List.append_nil]; rfl
  | cons v vs ih =>
    rw [List.length_cons] at hmax hlen
    have hv := performAll_data (s := s.begin) he hout v (octets := taken) (hi := hi) (lo := lo)
      (by rw [begin_cfg]; omega) (by omega)
    have hvs := ih (taken ++ [v]) (by simp; omega) (by simp; omega)
    rw [stuff_cons, performAll_batch_append_of_next _ hv]
    simpa using hvs

/-- The checksum octet that makes the sum valid (R107): every cell of the payload has been written. -/
theorem performAll_checksum_valid {hi lo c : Byte} {payload : List Byte}
    (hlen : payload.length = hi.toNat * 256 + lo.toNat) (hmax : payload.length + 3 < s.cfg.maxFrame)
    (hsum : octetSum payload + c = csumOk) :
    let full := s.begin.attempt (payload.length + 3) hi lo payload
    performAll (batch (stuffByte c)) full =
      .next ((decodeSample payload (linkArrival (full.emitFrame payload))).clear.driveLink .working) := by
  intro full
  have hread : memRead 0 full.dlen full = .ok payload := by
    have hcells := memRead_of_map_fst_eq_range (attempt_buf_fst s.begin (payload.length + 3) hi lo payload)
    rwa [attempt_buf_snd, hlen] at hcells
  refine (performAll_stuffByte (s := full) he hout fun _ hf =>
    .frame payload (s := full) (Nat.le_add_left 3 _) hmax (congrArg (· + 3) hlen) hf hsum hread).trans ?_
  simp

/-- Any other checksum octet (R107): the frame is dropped. -/
theorem performAll_checksum_invalid {hi lo c : Byte} {payload : List Byte}
    (hlen : payload.length = hi.toNat * 256 + lo.toNat) (hmax : payload.length + 3 < s.cfg.maxFrame)
    (hsum : octetSum payload + c ≠ csumOk) :
    let full := s.begin.attempt (payload.length + 3) hi lo payload
    performAll (batch (stuffByte c)) full = .next (raise .checksum (octetSum payload + c).toNat full) := by
  intro full
  refine (performAll_stuffByte (s := full) (u := raise .checksum (octetSum payload + c).toNat full) he hout fun _ hf =>
    .badSum (s := full) (Nat.le_add_left 3 _) hmax (congrArg (· + 3) hlen) hf hsum).trans (congrArg _ ?_)
  exact driveLink_classify_eq_self (s := raise .checksum (octetSum payload + c).toNat full) hout

end Attempt

/-! ## A whole frame (R115) -/

/-- The two length octets of a frame (R63) say its payload's length (R64), up to what sixteen bits hold. -/
theorem lengthOctets_toNat {n : Nat} (h : n < 65536) :
    (BitVec.ofNat 8 (n / 256)).toNat * 256 + (BitVec.ofNat 8 n).toNat = n := by
  simp only [BitVec.toNat_ofNat]
  omega

/-- A frame's start marker and length octets leave an attempt at position 3, whatever attempt was open. -/
theorem performAll_header {s : State} (hs : BlockInv s) (he : s.escPending = false) (hi lo : Byte) (rest : List Byte) :
    performAll (batch (startMarker :: (stuffByte hi ++ (stuffByte lo ++ rest)))) s =
      performAll (batch rest) (s.begin.attempt 3 hi lo []) := by
  have hout := hs.linkOut_eq_classify
  obtain ⟨r, hstart⟩ := perform_raw_startMarker hs he
  have hhi := performAll_lenHi (s := { s with result := r }) he hout hi
  have hlo := performAll_lenLo (s := s.begin) he hout hi lo
  calc performAll (batch (startMarker :: (stuffByte hi ++ (stuffByte lo ++ rest)))) s
    _ = performAll (batch (stuffByte hi ++ (stuffByte lo ++ rest))) ({ s with result := r }.attempt 1 0 0 []) :=
      performAll_cons_of_next _ hstart
    _ = performAll (batch (stuffByte lo ++ rest)) (s.begin.attempt 2 hi 0 []) :=
      performAll_batch_append_of_next _ hhi
    _ = performAll (batch rest) (s.begin.attempt 3 hi lo []) := performAll_batch_append_of_next _ hlo

theorem frameOctets_eq (payload : List Byte) (c : Byte) :
    frameOctets payload c =
      startMarker :: (stuffByte (BitVec.ofNat 8 (payload.length / 256)) ++
        (stuffByte (BitVec.ofNat 8 payload.length) ++ (stuff payload ++ stuffByte c))) := by
  simp [frameOctets, frameBody, stuff]

/-- The raw bytes of a frame that fits, up to its checksum octet, leave an attempt that holds the payload. -/
theorem performAll_frameOctets {s : State} {payload : List Byte} (c : Byte) (hs : BlockInv s)
    (he : s.escPending = false) (hfit : payload.length + 4 ≤ s.cfg.maxFrame) (hlen : payload.length < 65536) :
    performAll (batch (frameOctets payload c)) s =
      performAll (batch (stuffByte c))
        (s.begin.attempt (payload.length + 3) (BitVec.ofNat 8 (payload.length / 256))
          (BitVec.ofNat 8 payload.length) payload) := by
  have hpayload := performAll_payload he hs.linkOut_eq_classify [] payload (by simp; omega)
    (by rw [lengthOctets_toNat hlen]; simp)
  rw [frameOctets_eq, performAll_header hs he]
  exact performAll_batch_append_of_next _ hpayload

/-- Settles O53: everything before the checksum octet fills the attempt with the payload; that octet then decides. -/
theorem frameIsEmittedOrItsChecksumReported : Obligations.FrameIsEmittedOrItsChecksumReported := by
  unfold Obligations.FrameIsEmittedOrItsChecksumReported
  intro s payload c hs he hfit
  have hout := hs.linkOut_eq_classify
  obtain ⟨⟨-, hmaxFrame, -⟩, -⟩ := hs.frameInv
  have hsize : payload.length < 65536 := by omega
  have hlen := (lengthOctets_toNat hsize).symm
  rw [performAll_frameOctets c hs he hfit hsize]
  by_cases hsum : octetSum payload + c = csumOk
  · rw [performAll_checksum_valid he hout hlen hfit hsum]
    refine ⟨_, rfl, by simp, fun _ hshort => ?_, fun _ hlong => ?_, fun hbad => absurd hsum hbad⟩
    · simpa [he, Result.allClear] using validFrame_of_short (s := s.begin.attempt _ _ _ payload) hshort
    · simpa [he, Result.allClear] using validFrame_of_long (s := s.begin.attempt _ _ _ payload) hlong
  · rw [performAll_checksum_invalid he hout hlen hfit hsum]
    refine ⟨_, rfl, by simp, fun hgood => absurd hgood hsum, fun hgood => absurd hgood hsum, fun _ => ?_⟩
    simp [he, Result.allClear]

end Sys2Proof.Machine
end

section
/-! SUPPORT. The SampleDecoder (42_sample_decoder.md): both outcomes of `S.DECODE` (R129), the octets its registers are
read from (R121), and that it undoes the encoding of a sample's fields (R131). -/

namespace Sys2Proof.Machine

/-! ## `S.DECODE` in its two cases (R126, R129) -/

theorem exec_sDecode_of_short {s : State} {payload : List Byte}
    (h : payload.length < s.cfg.subhdrLen + s.cfg.appPrefixLen + 25) :
    exec (.sDecode payload) s =
      .next { s with result := { s.result with err := .truncated, info := payload.length } } :=
  congrArg _ (decodeSample_short payload s h)

theorem exec_sDecode_of_long {s : State} {payload : List Byte}
    (h : s.cfg.subhdrLen + s.cfg.appPrefixLen + 25 ≤ payload.length) :
    exec (.sDecode payload) s =
      .next { s with
        sample := some (Sample.ofPayload (s.cfg.subhdrLen + s.cfg.appPrefixLen) payload)
        sampleValid := true
        result := { s.result with sampleOk := true } } :=
  congrArg _ (decodeSample_long payload s h)

/-- Settles O23: a register of one octet is that octet, one of two or four has the value `le16_toNat` or `le32_toNat`
says. -/
theorem payloadDecodesIntoTheSample : Obligations.PayloadDecodesIntoTheSample := by
  unfold Obligations.PayloadDecodesIntoTheSample
  intro s payload base o
  refine ⟨exec_sDecode_of_short, fun hlong => ⟨Sample.ofPayload base payload, exec_sDecode_of_long hlong, ?_⟩⟩
  have two : ∀ k, (le16 payload (base + k)).toNat = o k + 256 * o (k + 1) := fun k => le16_toNat payload (base + k)
  have four : (le32 payload (base + 10)).toNat = o 10 + 256 * o 11 + 65536 * o 12 + 16777216 * o 13 :=
    le32_toNat payload (base + 10)
  exact ⟨two 0, rfl, rfl, two 4, two 6, two 8, four, two 14, two 16, rfl, rfl, rfl, rfl, rfl, rfl, rfl⟩

/-! ## Encoding a sample's fields and decoding them (R131) -/

@[simp] theorem Sample.octets_length (x : Sample) : x.octets.length = 25 := rfl

/-- An octet of the middle part of a payload, read at its place in the whole. -/
theorem octetAt_between (skipped trailing : List Byte) {fields : List Byte} {k : Nat} (hk : k < fields.length) :
    octetAt (skipped ++ fields ++ trailing) (skipped.length + k) = octetAt fields k := by
  simp [octetAt, List.getElem?_append_right, List.getElem?_append_left hk]

/-- The decoder reads nothing but the 25 field octets: neither what is skipped (R128) nor what trails (R127). -/
theorem Sample.ofPayload_between (skipped trailing : List Byte) {fields : List Byte} (hlen : fields.length = 25) :
    Sample.ofPayload skipped.length (skipped ++ fields ++ trailing) = Sample.ofPayload 0 fields := by
  have hread : ∀ k, k < 25 →
      octetAt (skipped ++ fields ++ trailing) (skipped.length + k) = octetAt fields k :=
    fun _ hk => octetAt_between skipped trailing (hlen ▸ hk)
  have hfirst : octetAt (skipped ++ fields ++ trailing) skipped.length = octetAt fields 0 := hread 0 (by decide)
  simp only [Sample.ofPayload, le16, le32, Nat.add_assoc, Nat.zero_add, Nat.reduceAdd, hfirst, hread, Nat.reduceLT]

/-- Every register is read from the octets it was written to. -/
theorem Sample.ofPayload_octets (x : Sample) : Sample.ofPayload 0 x.octets = x := by
  have hvoltage : le16 x.octets 0 = x.batteryVoltage := le16_eq rfl rfl
  have hprimary : le16 x.octets 4 = x.tempPrimary := le16_eq rfl rfl
  have hsecondary : le16 x.octets 6 = x.tempSecondary := le16_eq rfl rfl
  have hhumidity : le16 x.octets 8 = x.humidity := le16_eq rfl rfl
  have hpressure : le32 x.octets 10 = x.pressure := le32_eq (le16_eq rfl rfl) (le16_eq rfl rfl)
  have hcomputed : le16 x.octets 14 = x.altitudeComputed := le16_eq rfl rfl
  have hcorrected : le16 x.octets 16 = x.altitudeCorrected := le16_eq rfl rfl
  simp only [Sample.ofPayload, Nat.zero_add, hvoltage, hprimary, hsecondary, hhumidity, hpressure, hcomputed,
    hcorrected]
  rfl

/-- Settles O25: the payload is long enough, and the decoder reads the field octets back. -/
theorem sampleSurvivesEncodingAndDecoding : Obligations.SampleSurvivesEncodingAndDecoding := by
  unfold Obligations.SampleSurvivesEncodingAndDecoding
  intro s x skipped trailing hskip
  have hlong : s.cfg.subhdrLen + s.cfg.appPrefixLen + 25 ≤ (skipped ++ x.octets ++ trailing).length := by
    simp [hskip]
  have hsample : Sample.ofPayload (s.cfg.subhdrLen + s.cfg.appPrefixLen) (skipped ++ x.octets ++ trailing) = x :=
    calc Sample.ofPayload (s.cfg.subhdrLen + s.cfg.appPrefixLen) (skipped ++ x.octets ++ trailing)
      _ = Sample.ofPayload skipped.length (skipped ++ x.octets ++ trailing) := by rw [hskip]
      _ = Sample.ofPayload 0 x.octets := Sample.ofPayload_between skipped trailing x.octets_length
      _ = x := x.ofPayload_octets
  rw [exec_sDecode_of_long hlong, hsample]

end Sys2Proof.Machine
end

section
/-! SUPPORT. The LinkWatcher (43_link_watcher.md): its operations as updates of its four registers (R141 to R144), the
one update each event makes (R147), the unbounded counter that the saturating one stands for (R145), the timelines of
silence (R148), and the order within a clock cycle (R150). -/

namespace Sys2Proof.Machine

/-! ## The operations (R141 to R144) -/

theorem counterAfterTick_of_seenRecently {s : State} (h : s.seenRecently = true) : counterAfterTick s = s.counter := by
  simp [counterAfterTick, h]

theorem counterAfterTick_of_not_seenRecently {s : State} (h : s.seenRecently = false) :
    counterAfterTick s = min (s.counter + 1) (s.cfg.lostThreshold + 1) := by
  simp [counterAfterTick, h, counterCeiling]

theorem lostAfterTick_eq (s : State) :
    lostAfterTick s = (s.lost || decide (s.cfg.lostThreshold < counterAfterTick s)) := by
  unfold lostAfterTick
  split
  · next hover => simp [hover]
  · next hover => simp [hover]

/-- Settles O26: the operation is the register update. -/
theorem frameArrivalSetsTheLink : Obligations.FrameArrivalSetsTheLink := by
  unfold Obligations.FrameArrivalSetsTheLink
  exact fun _ => rfl

/-- Settles O27: the counter of either branch, and `lost` by the test made after both. -/
theorem tickAgesTheLink : Obligations.TickAgesTheLink := by
  unfold Obligations.TickAgesTheLink
  intro s
  have htick : exec .lTick s = .next (linkTick s) := rfl
  constructor
  · intro hseen
    simp only [htick, linkTick, lostAfterTick_eq, counterAfterTick_of_seenRecently hseen]
  · intro hseen
    simp only [htick, linkTick, lostAfterTick_eq, counterAfterTick_of_not_seenRecently hseen, hseen]

/-- Settles O28: with all flags clear no clause before the last applies. -/
theorem linkResetClearsTheLink : Obligations.LinkResetClearsTheLink := by
  unfold Obligations.LinkResetClearsTheLink
  exact fun s => ⟨linkReset s, rfl, rfl, linkReset_classify s⟩

/-- Settles O29: the output is `classify()`, whose clauses are tried in turn. -/
theorem classifyTriesItsClausesInOrder : Obligations.ClassifyTriesItsClausesInOrder := by
  unfold Obligations.ClassifyTriesItsClausesInOrder
  intro s
  refine ⟨s.classify, rfl, ?_, ?_, ?_, ?_, ?_⟩ <;> unfold State.classify classifyLink
  · intro hseen
    rw [if_pos hseen]
  · intro hseen hlost
    simp [hseen, hlost]
  · intro hseen hlost hever hgrace
    simp [hseen, hlost, hever, hgrace]
  · intro hseen hlost hever hgrace
    simp [hseen, hlost, hever, Nat.not_lt.2 hgrace]
  · intro hseen hlost hever
    simp [hseen, hlost, hever]

/-! ## The update an event makes (R147) -/

/-- A frame newly reported is an arrival. -/
theorem AsmEffect.link_eq_arrival_of_frameOk {lb : LogicalByte} {s t : State} (h : AsmEffect lb s t)
    (hs : s.result.frameOk = false) (hr : t.result.frameOk = true) : t.link = ⟨true, false, true, 0⟩ := by
  cases h with
  | frame payload => simp [State.link]
  | start | nostart | resync | lenhi | lenlo | oversize | data | badSum => simp [hs] at hr

theorem EventEffect.link_eq_arrival_of_frameOk {s u : State} {b : Byte} (h : EventEffect s (.raw b) u)
    (hr : u.result.frameOk = true) : u.link = ⟨true, false, true, 0⟩ := by
  cases h with
  | escape => cases hr
  | deliver _ lb _ hd hu => exact hu.link_eq_arrival_of_frameOk rfl hr

/-- Settles O42: only the completion of a valid frame touches the link's registers. -/
theorem rawBytesTouchTheLinkOnlyByArrival : Obligations.RawBytesTouchTheLinkOnlyByArrival := by
  unfold Obligations.RawBytesTouchTheLinkOnlyByArrival
  intro s t b h
  cases hr : t.result.frameOk with
  | false => exact perform_raw_keeps_link h hr
  | true =>
    obtain ⟨u, hu, rfl⟩ := perform_next h
    exact hu.link_eq_arrival_of_frameOk hr

/-- The link's registers after an update, if there is one: what `LinkRegisters.afterUpdate` is for the unbounded
LinkWatcher. -/
def State.linkAfterUpdate (s : State) : Option LinkUpdate → LinkRegisters
  | some k => (k.apply s).link
  | none => s.link

theorem perform_link {e : Event} {s t : State} (h : perform e s = .next t) :
    t.link = s.linkAfterUpdate (linkUpdateOf e t.result) := by
  cases e with
  | raw b =>
    rw [rawBytesTouchTheLinkOnlyByArrival s t b h, linkUpdateOf]
    split <;> rfl
  | tick | lreset | reset =>
    obtain rfl := Host.Outcome.next.inj h
    rfl

theorem perform_linkOut {e : Event} {s t : State} (h : perform e s = .next t) : t.linkOut = t.classify := by
  obtain ⟨u, -, rfl⟩ := perform_next h
  rfl

/-! ## The saturating counter stands for the unbounded one (R145) -/

/-- `classify()` of registers (R144). -/
def LinkRegisters.classify (graceTicks : Nat) (l : LinkRegisters) : LinkState :=
  classifyLink graceTicks l.seenRecently l.lost l.everSeen l.counter

/-- The unbounded `counter'` of a tick (R145). -/
def LinkRegisters.counterAfterTick (l : LinkRegisters) : Nat := if l.seenRecently then l.counter else l.counter + 1

theorem applyUnbounded_tick (n : Nat) (l : LinkRegisters) :
    LinkUpdate.tick.applyUnbounded n l =
      ⟨false, decide (n < l.counterAfterTick) || l.lost, l.everSeen, l.counterAfterTick⟩ := rfl

@[simp] theorem apply_cfg (k : LinkUpdate) (s : State) : (k.apply s).cfg = s.cfg := by cases k <;> rfl

theorem StandsFor.congr {s t : State} {l : LinkRegisters} (h : StandsFor s l) (hlink : t.link = s.link)
    (hcfg : t.cfg = s.cfg) : StandsFor t l := by
  obtain ⟨hseen, hlost, hever, hcount⟩ := LinkRegisters.mk.inj hlink
  simpa only [StandsFor, hseen, hlost, hever, hcount, hcfg] using h

theorem standsFor_of_link_eq {s : State} {l : LinkRegisters} (hlink : s.link = l)
    (h : l.counter ≤ s.cfg.lostThreshold) : StandsFor s l := by
  subst hlink
  exact ⟨rfl, rfl, rfl, (Nat.min_eq_left (Nat.le_succ_of_le h)).symm, fun _ => h⟩

theorem StandsFor.counterAfterTick_eq {s : State} {l : LinkRegisters} (h : StandsFor s l) :
    counterAfterTick s = min l.counterAfterTick (s.cfg.lostThreshold + 1) := by
  obtain ⟨hseen, -, -, hcount, -⟩ := h
  unfold counterAfterTick LinkRegisters.counterAfterTick
  rw [hseen, hcount, counterCeiling]
  split
  · rfl
  · omega

/-- The counters are only tested against the threshold, where saturation at one above it makes no difference. -/
theorem StandsFor.after_tick {s : State} {l : LinkRegisters} (h : StandsFor s l) :
    StandsFor (linkTick s) (LinkUpdate.tick.applyUnbounded s.cfg.lostThreshold l) := by
  have hcounter := h.counterAfterTick_eq
  obtain ⟨-, hlost, hever, -, -⟩ := h
  have hover : s.cfg.lostThreshold < counterAfterTick s ↔ s.cfg.lostThreshold < l.counterAfterTick := by omega
  rw [applyUnbounded_tick]
  refine ⟨rfl, ?_, hever, hcounter, fun hnot => ?_⟩
  · simp only [linkTick_lost, lostAfterTick_eq, hover, hlost, Bool.or_comm]
  · simp only [Bool.or_eq_false_iff, decide_eq_false_iff_not, Nat.not_lt] at hnot
    exact hnot.1

theorem StandsFor.after_update {s : State} {l : LinkRegisters} (h : StandsFor s l) (k : LinkUpdate) :
    StandsFor (k.apply s) (k.applyUnbounded s.cfg.lostThreshold l) := by
  cases k with
  | reset | arrival => exact standsFor_of_link_eq rfl (Nat.zero_le _)
  | tick => exact h.after_tick

/-- While the link is not lost the two counters are equal, and once it is lost the counter is not read. -/
theorem StandsFor.classify_eq {s : State} {l : LinkRegisters} (h : StandsFor s l) :
    s.classify = l.classify s.cfg.graceTicks := by
  obtain ⟨hseen, hlost, hever, hcount, hbound⟩ := h
  unfold State.classify LinkRegisters.classify
  rw [hseen, hlost, hever]
  cases hl : l.lost with
  | true => simp [classifyLink]
  | false =>
    have hequal : s.counter = l.counter := by
      have := hbound hl
      omega
    rw [hequal]

/-- What an event makes of the block's LinkWatcher stands for what it makes of the unbounded one, and is shown so. -/
theorem StandsFor.after_perform {e : Event} {s t : State} {l : LinkRegisters} (hs : StandsFor s l)
    (h : perform e s = .next t) :
    StandsFor t (l.afterUpdate s.cfg.lostThreshold (linkUpdateOf e t.result)) ∧
      t.linkOut = (l.afterUpdate s.cfg.lostThreshold (linkUpdateOf e t.result)).classify s.cfg.graceTicks := by
  have hcfg := perform_keeps_cfg h
  have hlink := perform_link h
  have hstands : StandsFor t (l.afterUpdate s.cfg.lostThreshold (linkUpdateOf e t.result)) := by
    cases hk : linkUpdateOf e t.result with
    | none => exact hs.congr (by rw [hlink, hk]; rfl) hcfg
    | some k => exact (hs.after_update k).congr (by rw [hlink, hk]; rfl) (by rw [hcfg, apply_cfg])
  exact ⟨hstands, by rw [perform_linkOut h, hstands.classify_eq, hcfg]⟩

/-- Settles O33: a step performs its event, which makes both LinkWatchers take the same update. -/
theorem stepKeepsStandingForTheUnboundedCounter : Obligations.StepKeepsStandingForTheUnboundedCounter := by
  unfold Obligations.StepKeepsStandingForTheUnboundedCounter
  intro s t e rest l hstim hs h
  rw [step_cons hstim] at h
  exact StandsFor.after_perform (s := { s with stimulus := rest }) hs h

theorem StandsFor.after_updates {s : State} {l : LinkRegisters} (h : StandsFor s l) (us : List LinkUpdate) :
    StandsFor (us.foldl (fun x u => u.apply x) s)
      (us.foldl (fun x u => u.applyUnbounded s.cfg.lostThreshold x) l) := by
  induction us generalizing s l with
  | nil => exact h
  | cons u us ih => simpa using ih (h.after_update u)

theorem foldl_apply_cfg (us : List LinkUpdate) (s : State) : (us.foldl (fun x u => u.apply x) s).cfg = s.cfg := by
  induction us generalizing s with
  | nil => rfl
  | cons u us ih => simpa using ih (u.apply s)

/-- Settles O32: a link reset stands for the unbounded one's, and every update keeps the relation. -/
theorem saturatingCounterIsUnobservable : Obligations.SaturatingCounterIsUnobservable := by
  unfold Obligations.SaturatingCounterIsUnobservable
  intro s us
  have hreset : StandsFor (linkReset s) ⟨false, false, false, 0⟩ := standsFor_of_link_eq rfl (Nat.zero_le _)
  have hclass := (hreset.after_updates us).classify_eq
  rw [foldl_apply_cfg] at hclass
  exact hclass

/-! ## The timelines of silence (R148) -/

/-- The unbounded LinkWatcher after `n` counted ticks of silence. -/
def LinkRegisters.silentFor (lostThreshold : Nat) (everSeen : Bool) (n : Nat) : LinkRegisters :=
  ⟨false, decide (lostThreshold < n), everSeen, n⟩

theorem silentFor_tick (m : Nat) (ever : Bool) (n : Nat) :
    LinkUpdate.tick.applyUnbounded m (.silentFor m ever n) = .silentFor m ever (n + 1) := by
  have hover : (m < n + 1 ∨ m < n) ↔ m < n + 1 := by omega
  simp only [LinkRegisters.silentFor, applyUnbounded_tick, LinkRegisters.counterAfterTick, Bool.false_eq_true,
    if_false, ← Bool.decide_or, hover]

theorem silentFor_classify (g m : Nat) (ever : Bool) (n : Nat) :
    (LinkRegisters.silentFor m ever n).classify g =
      if m < n then .lost else if ever ∧ n < g then .working else .silent := by
  by_cases hlost : m < n
  · simp [LinkRegisters.classify, LinkRegisters.silentFor, classifyLink, hlost]
  · simp [LinkRegisters.classify, LinkRegisters.silentFor, classifyLink, hlost]

theorem StandsFor.link_of_silentFor {s : State} {ever : Bool} {n : Nat}
    (h : StandsFor s (.silentFor s.cfg.lostThreshold ever n)) :
    s.link = ⟨false, decide (s.cfg.lostThreshold < n), ever, min n (s.cfg.lostThreshold + 1)⟩ := by
  obtain ⟨hseen, hlost, hever, hcount, -⟩ := h
  unfold State.link
  rw [hseen, hlost, hever, hcount]
  rfl

/-- Each tick counts one more tick of silence. -/
theorem performAll_ticks (n : Nat) {s : State} {ever : Bool} {m : Nat}
    (h : StandsFor s (.silentFor s.cfg.lostThreshold ever m)) (hout : s.linkOut = s.classify) :
    ∃ t, performAll (List.replicate n .tick) s = .next t ∧ t.cfg = s.cfg ∧ t.linkOut = t.classify ∧
      StandsFor t (.silentFor s.cfg.lostThreshold ever (m + n)) := by
  induction n generalizing s m with
  | zero => exact ⟨s, rfl, rfl, hout, h⟩
  | succ n ih =>
    have htick := perform_tick s
    have hcfg := perform_keeps_cfg htick
    obtain ⟨hnext, -⟩ := h.after_perform htick
    obtain ⟨t, ht, htcfg, htout, hstands⟩ :=
      ih (m := m + 1) (by rw [hcfg, ← silentFor_tick]; exact hnext) (perform_linkOut htick)
    refine ⟨t, (performAll_cons_of_next _ htick).trans ht, htcfg.trans hcfg, htout, ?_⟩
    rwa [hcfg, Nat.add_assoc, Nat.add_comm 1 n] at hstands

/-- A first event after which no tick has been counted yet, and `n` ticks after it. -/
theorem performAll_cons_ticks (n : Nat) {e : Event} {s u : State} {ever : Bool} (he : perform e s = .next u)
    (h : u.link = ⟨false, false, ever, 0⟩) :
    ∃ t, performAll (e :: List.replicate n .tick) s = .next t ∧
      t.link = ⟨false, decide (s.cfg.lostThreshold < n), ever, min n (s.cfg.lostThreshold + 1)⟩ ∧
      t.linkOut =
        if s.cfg.lostThreshold < n then .lost else if ever ∧ n < s.cfg.graceTicks then .working else .silent := by
  have hstart : StandsFor u (.silentFor u.cfg.lostThreshold ever 0) := standsFor_of_link_eq h (Nat.zero_le _)
  obtain ⟨t, ht, hcfg, hout, hstands⟩ := performAll_ticks n hstart (perform_linkOut he)
  rw [← hcfg, Nat.zero_add] at hstands
  refine ⟨t, (performAll_cons_of_next _ he).trans ht, ?_⟩
  rw [← perform_keeps_cfg he, ← hcfg, hout, hstands.classify_eq, silentFor_classify]
  exact ⟨hstands.link_of_silentFor, rfl⟩

/-- Settles O30: with no frame ever seen there is no grace window. -/
theorem silentTicksFromResetLoseTheLink : Obligations.SilentTicksFromResetLoseTheLink := by
  unfold Obligations.SilentTicksFromResetLoseTheLink
  intro s n
  simpa using performAll_cons_ticks n (perform_lreset s) rfl

/-- Settles O31: the first tick only consumes `seen_recently`. -/
theorem ticksAfterAnArrivalLoseTheLink : Obligations.TicksAfterAnArrivalLoseTheLink := by
  unfold Obligations.TicksAfterAnArrivalLoseTheLink
  intro s n hlink
  have harrived : StandsFor s ⟨true, false, true, 0⟩ := standsFor_of_link_eq hlink (Nat.zero_le _)
  obtain ⟨hstands, -⟩ := harrived.after_perform (perform_tick s)
  have hfirst := StandsFor.link_of_silentFor (ever := true) (n := 0) hstands
  simpa [List.replicate_succ] using performAll_cons_ticks n (perform_tick s) hfirst

/-! ## One clock cycle (R150) -/

theorem andThen_next_right (o : Answer) : andThen o .next = o := by cases o <;> rfl

@[simp] theorem performAll_singleton (e : Event) : performAll [e] = perform e :=
  funext fun s => andThen_next_right (perform e s)

/-- The sample decoder does not read the link output. -/
theorem decodeSample_driveLink (payload : List Byte) (s : State) (o : LinkState) :
    decodeSample payload (s.driveLink o) = (decodeSample payload s).driveLink o := by
  by_cases hshort : payload.length < s.cfg.minPayloadLen
  · rw [decodeSample_short payload s hshort, decodeSample_short payload (s.driveLink o) hshort]
    rfl
  · have hlong := Nat.le_of_not_lt hshort
    rw [decodeSample_long payload s hlong, decodeSample_long payload (s.driveLink o) hlong]
    rfl

/-- An arrival overwrites all four registers of the link, so those before it leave no trace but the old output. -/
theorem AsmEffect.withLink_of_frameOk {lb : LogicalByte} {s t : State} (h : AsmEffect lb s t)
    (hs : s.result.frameOk = false) (hr : t.result.frameOk = true) (l : LinkRegisters) :
    AsmEffect lb (s.withLink l) (t.driveLink (s.withLink l).linkOut) := by
  cases h with
  | frame payload hpos hmax hlen hf hsum hread =>
    have hsame : (decodeSample payload (linkArrival ((s.withLink l).emitFrame payload))).clear =
        (decodeSample payload (linkArrival (s.emitFrame payload))).clear.driveLink (s.withLink l).linkOut :=
      congrArg State.clear (decodeSample_driveLink payload (linkArrival (s.emitFrame payload)) (s.withLink l).linkOut)
    rw [← hsame]
    exact .frame payload hpos hmax hlen hf hsum hread
  | start | nostart | resync | lenhi | lenlo | oversize | data | badSum => simp [hs] at hr

/-- A raw byte that completes a frame leaves the same state whatever the link's registers were. -/
theorem perform_raw_withLink_of_frameOk {s t : State} {b : Byte} (h : perform (.raw b) s = .next t)
    (hr : t.result.frameOk = true) (l : LinkRegisters) : perform (.raw b) (s.withLink l) = .next t := by
  obtain ⟨u, hu, rfl⟩ := perform_next h
  cases hu with
  | escape => cases hr
  | deliver _ lb _ hd hu =>
    exact (EventEffect.deliver (s := s.withLink l) b lb _ hd (hu.withLink_of_frameOk rfl hr l)).perform_raw_eq

theorem perform_raw_after_tick {s t u : State} {b : Byte} (htick : perform .tick s = .next t)
    (h : perform (.raw b) s = .next u) (hr : u.result.frameOk = true) : perform (.raw b) t = .next u := by
  obtain rfl : s.begin.withLink (linkTick s).link = t := Host.Outcome.next.inj htick
  exact perform_raw_withLink_of_frameOk (s := s.begin) h hr _

@[simp] theorem keepRawResult_link (c : CycleInput) (r : Result) (t : State) : (c.keepRawResult r t).link = t.link := by
  unfold CycleInput.keepRawResult
  split <;> rfl

theorem clockCycle_of_linkReset {c : CycleInput} {s t : State} (hrst : c.rst = false) (hreset : c.linkReset = true)
    (h : clockCycle c s = .next t) : t.link = ⟨false, false, false, 0⟩ := by
  obtain ⟨v, -, h⟩ := (andThen_eq_next_iff _ _ _).1 h
  obtain ⟨w, hw, h⟩ := (andThen_eq_next_iff _ _ _).1 h
  obtain rfl := Host.Outcome.next.inj h
  have hlreset : perform .lreset v = .next w := by simpa [hrst, hreset] using hw
  obtain rfl := Host.Outcome.next.inj hlreset
  rw [keepRawResult_link]
  rfl

/-- Without a link reset a cycle with a raw byte is that byte's step, after the tick's where the cycle has one. -/
theorem clockCycle_of_rxValid {c : CycleInput} (s : State) (hrst : c.rst = false) (hrx : c.rxValid = true)
    (hreset : c.linkReset = false) :
    clockCycle c s = andThen (performAll (if c.tick then [.tick] else []) s) (perform (.raw c.rxData)) := by
  have hlines : ({ c with linkReset := false } : CycleInput).events =
      (if c.tick then [.tick] else []) ++ [.raw c.rxData] := by
    simp [CycleInput.events, hrst, hrx]
  have hkeep : ∀ t, (andThen (performAll (if !c.rst && c.linkReset then [.lreset] else []) t) fun u =>
      .next (c.keepRawResult t.result u)) = .next t := by
    intro t
    simp [hreset, performAll, CycleInput.keepRawResult]
  unfold clockCycle
  rw [hlines, performAll_append, performAll_singleton, funext hkeep, andThen_next_right]

/-- Settles O34: the link reset comes last, and an arrival overwrites what the tick left. -/
theorem sharedCycleArrivalWinsOverTickResetOverBoth : Obligations.SharedCycleArrivalWinsOverTickResetOverBoth := by
  unfold Obligations.SharedCycleArrivalWinsOverTickResetOverBoth
  intro s t c hrst hrx h
  refine ⟨fun hreset => clockCycle_of_linkReset hrst hreset h, fun u hreset hraw hr => ?_⟩
  rw [clockCycle_of_rxValid s hrst hrx hreset] at h
  obtain ⟨v, hv, hrawAfter⟩ := (andThen_eq_next_iff _ _ _).1 h
  have hsame : perform (.raw c.rxData) v = .next u := by
    cases htick : c.tick with
    | false =>
      obtain rfl : s = v := by simpa [htick, performAll] using hv
      exact hraw
    | true => exact perform_raw_after_tick (by simpa [htick] using hv) hraw hr
  exact Host.Outcome.next.inj (hrawAfter.symm.trans hsame)

end Sys2Proof.Machine
end

section
/-! SUPPORT. The step and runs of steps (44_top_level.md): what a step performs (R160, R168), the results it can have
(R166, R187), and the host's run of a loaded stimulus, which is the run of its events since no operation reads the
events still to come (R167, R170; log entry 1). -/

namespace Sys2Proof.Machine

/-! ## What a step performs (R160, R168) -/

/-- The flag of the ByteDescrambler is all an event's selection reads (R61, R69). -/
theorem selected_congr {s t : State} (h : t.escPending = s.escPending) (e : Event) : t.selected e = s.selected e := by
  cases e with
  | raw b => rw [selected_raw, selected_raw, h]
  | tick | lreset | reset => rfl

/-- Settles O8: `perform` is the selected operation, then `L.CLASSIFY`, in the state with its event taken. -/
theorem stepRunsTheSelectedOperation : Obligations.StepRunsTheSelectedOperation := by
  unfold Obligations.StepRunsTheSelectedOperation
  intro s e rest h
  have hselected : ({ s with stimulus := rest } : State).selected e = s.selected e := selected_congr rfl e
  rw [step_cons h, perform, hselected]
  rfl

/-- Settles O11: `State.begin` overwrites the earlier result, and the selection does not read it. -/
theorem earlierResultsAreNotRead : Obligations.EarlierResultsAreNotRead := by
  unfold Obligations.EarlierResultsAreNotRead
  intro e s r
  have hselected : ({ s with result := r } : State).selected e = s.selected e := selected_congr rfl e
  rw [perform, hselected]
  rfl

/-! ## The results of a step (R166, R187) -/

theorem dlen_le (s : State) : s.dlen ≤ 65535 := by
  have hhi := s.lenHi.isLt
  have hlo := s.lenLo.isLt
  unfold State.dlen
  omega

/-- An octet other than the greatest is at most 254. -/
theorem toNat_le_of_ne_csumOk {v : Byte} (h : v ≠ csumOk) : v.toNat ≤ 254 := by
  bv_omega

/-- A frame's result: complete with a sample where the payload is long enough, `E_TRUNCATED` where it is not (R129). -/
theorem decodeSample_result_legal {s : State} {payload : List Byte}
    (h : s.result = ⟨true, some payload, false, .none, 0⟩) : (decodeSample payload s).result.Legal s.cfg := by
  obtain hlen | hlen := Nat.lt_or_ge payload.length s.cfg.minPayloadLen
  · exact .inr (.inr (.inl ⟨payload, hlen, by simp [decodeSample_short _ _ hlen, h]⟩))
  · exact .inr (.inl ⟨payload, hlen, by simp [decodeSample_long _ _ hlen, h]⟩)

/-- The SampleDecoder raises no error but `E_TRUNCATED` (R129). -/
theorem decodeSample_err_ne_unexpectedStart {s : State} {payload : List Byte} (h : s.result.err ≠ .unexpectedStart) :
    (decodeSample payload s).result.err ≠ .unexpectedStart := by
  obtain hlen | hlen := Nat.lt_or_ge payload.length s.cfg.minPayloadLen
  · simp [decodeSample_short _ _ hlen]
  · simpa [decodeSample_long _ _ hlen] using h

/-- Each of the FrameAssembler's operations reports nothing, a frame, or its own error on an all-clear result. -/
theorem AsmEffect.result_legal {lb : LogicalByte} {s t : State} (h : AsmEffect lb s t)
    (hs : s.result = Result.allClear) : t.result.Legal s.cfg := by
  cases h with
  | start | lenhi | lenlo | data => exact .inl (by simpa using hs)
  | nostart hpos hv =>
    have hne : lb.v.toNat ≠ 0x7E := fun h => hv (BitVec.eq_of_toNat_eq h)
    have hle : lb.v.toNat ≤ 255 := Nat.le_of_lt_succ lb.v.isLt
    exact .inr (.inr (.inr (.inl ⟨_, hle, hne, by simp [raise_noStart, hs, Result.allClear]⟩)))
  | resync hpos =>
    exact .inr (.inr (.inr (.inr (.inl ⟨_, hpos, by simp [raise_unexpectedStart, hs, Result.allClear]⟩))))
  | oversize =>
    exact .inr (.inr (.inr (.inr (.inr (.inl ⟨_, dlen_le s, by simp [raise_oversize, hs, Result.allClear]⟩)))))
  | frame payload =>
    have hframe : (linkArrival (s.emitFrame payload)).result = ⟨true, some payload, false, .none, 0⟩ := by
      simp [State.emitFrame, hs, Result.allClear]
    exact decodeSample_result_legal hframe
  | badSum hpos hmax hlen hf hsum =>
    exact .inr (.inr (.inr (.inr (.inr (.inr
      ⟨_, toNat_le_of_ne_csumOk hsum, by simp [raise_checksum, hs, Result.allClear]⟩)))))

theorem EventEffect.result_legal {s u : State} {e : Event} (h : EventEffect s e u) : u.result.Legal s.cfg := by
  cases h with
  | deliver b lb u hd hu => exact hu.result_legal rfl
  | escape | tick | lreset | reset => exact .inl rfl

/-- Only `A.RESYNC` reports `E_UNEXPECTED_START`, with the old position, which R28 bounds. -/
theorem AsmEffect.info_le_of_unexpectedStart {lb : LogicalByte} {s t : State} (h : AsmEffect lb s t)
    (hs : s.result = Result.allClear) (hpos : s.pos ≤ s.cfg.maxFrame) (he : t.result.err = .unexpectedStart) :
    t.result.info ≤ s.cfg.maxFrame := by
  cases h with
  | resync => exact hpos
  | start | lenhi | lenlo | data => simp [hs, Result.allClear] at he
  | nostart | oversize | badSum => cases he
  | frame payload =>
    have herr : (linkArrival (s.emitFrame payload)).result.err ≠ .unexpectedStart := by simp [hs, Result.allClear]
    exact absurd he (decodeSample_err_ne_unexpectedStart herr)

theorem EventEffect.info_le_of_unexpectedStart {s u : State} {e : Event} (h : EventEffect s e u)
    (hs : FrameInv s) (he : u.result.err = .unexpectedStart) : u.result.info ≤ s.cfg.maxFrame := by
  obtain ⟨-, ⟨hpos, -⟩, -⟩ := hs
  cases h with
  | deliver b lb u hd hu => exact hu.info_le_of_unexpectedStart rfl hpos he
  | escape | tick | lreset | reset => cases he

/-- Settles O37: the result is the one the operation reported, and only a raw byte's can report. -/
theorem resultsAreTheSevenOfTheRule : Obligations.ResultsAreTheSevenOfTheRule := by
  unfold Obligations.ResultsAreTheSevenOfTheRule
  intro e s t h
  obtain ⟨u, hu, rfl⟩ := perform_next h
  refine ⟨hu.result_legal, fun hs he => hu.info_le_of_unexpectedStart hs he, fun hraw => ?_⟩
  cases hu with
  | escape b | deliver b => exact absurd rfl (hraw b)
  | tick | lreset | reset => rfl

/-! ## A run of events has a step for each (R170) -/

theorem trace_cons_of_next {e : Event} {s t : State} (es : List Event) (h : perform e s = .next t) :
    trace (e :: es) s = (t.result, t.outputs) :: trace es t := by
  simp [trace, h]

theorem performAll_completes (es : List Event) {s : State} (hs : BlockInv s) :
    ∃ t, performAll es s = .next t ∧ BlockInv t := by
  induction es generalizing s with
  | nil => exact ⟨s, rfl, hs⟩
  | cons e es ih =>
    obtain ⟨t, ht⟩ := perform_completes e hs.frameInv
    rw [performAll_cons_of_next es ht]
    exact ih (perform_keeps_blockInv hs ht)

theorem length_trace (es : List Event) {s : State} (hs : BlockInv s) : (trace es s).length = es.length := by
  induction es generalizing s with
  | nil => rfl
  | cons e es ih =>
    obtain ⟨t, ht⟩ := perform_completes e hs.frameInv
    rw [trace_cons_of_next es ht, List.length_cons, List.length_cons, ih (perform_keeps_blockInv hs ht)]

/-- Settles O50: every event is answered under the invariant, which the answer keeps. -/
theorem runsHaveOneStepPerEvent : Obligations.RunsHaveOneStepPerEvent := by
  unfold Obligations.RunsHaveOneStepPerEvent
  intro es s hs
  obtain ⟨t, ht, htInv⟩ := performAll_completes es hs
  exact ⟨t, ht, htInv, length_trace es hs⟩

/-! ## No operation reads or writes the events still to come (log entry 1) -/

/-- An operation that does to a state with another stimulus what it does to the state itself, stops included. -/
def IgnoresStimulus (f : State → Answer) : Prop :=
  ∀ (s : State) (es : List Event), f (s.withStimulus es) = andThen (f s) fun t => .next (t.withStimulus es)

theorem ignoresStimulus_next {f : State → State} (h : ∀ s es, f (s.withStimulus es) = (f s).withStimulus es) :
    IgnoresStimulus fun s => .next (f s) :=
  fun s es => congrArg Host.Outcome.next (h s es)

theorem IgnoresStimulus.andThen {f g : State → Answer} (hf : IgnoresStimulus f) (hg : IgnoresStimulus g) :
    IgnoresStimulus fun s => andThen (f s) g := by
  intro s es
  show Machine.andThen (f (s.withStimulus es)) g = _
  rw [hf s es, andThen_assoc, andThen_assoc]
  exact congrArg (Machine.andThen (f s)) (funext fun t => hg t es)

theorem IgnoresStimulus.requires {ok : State → Bool} {f : State → Answer} (mn : String)
    (hok : ∀ s es, ok (s.withStimulus es) = ok s) (hf : IgnoresStimulus f) :
    IgnoresStimulus fun s => requires (ok s) mn (f s) := by
  intro s es
  show Machine.requires (ok (s.withStimulus es)) mn (f (s.withStimulus es)) = _
  rw [hok s es, hf s es]
  cases h : ok s <;> simp [h, Machine.requires]

theorem IgnoresStimulus.ite {p : State → Prop} [DecidablePred p] {f g : State → Answer}
    (hp : ∀ s es, p (s.withStimulus es) ↔ p s) (hf : IgnoresStimulus f) (hg : IgnoresStimulus g) :
    IgnoresStimulus fun s => if p s then f s else g s := by
  intro s es
  by_cases h : p s
  · simpa [h, hp s es] using hf s es
  · simpa [h, hp s es] using hg s es

theorem raise_withStimulus (e : ErrCode) (n : Nat) (s : State) (es : List Event) :
    raise e n (s.withStimulus es) = (raise e n s).withStimulus es := by
  cases e <;> rfl

theorem decodeSample_withStimulus (payload : List Byte) (s : State) (es : List Event) :
    decodeSample payload (s.withStimulus es) = (decodeSample payload s).withStimulus es := by
  unfold decodeSample
  rw [withStimulus_cfg]
  split <;> rfl

theorem execAStart_ignoresStimulus (e : Bool) : IgnoresStimulus (execAStart e) :=
  .requires _ (fun _ _ => rfl) (ignoresStimulus_next fun _ _ => rfl)

theorem execANostart_ignoresStimulus (e : Bool) (v : Byte) : IgnoresStimulus (execANostart e v) :=
  .requires _ (fun _ _ => rfl) (ignoresStimulus_next fun _ _ => rfl)

theorem execAResync_ignoresStimulus : IgnoresStimulus execAResync :=
  .requires _ (fun _ _ => rfl) (ignoresStimulus_next fun _ _ => rfl)

theorem execALenhi_ignoresStimulus (e : Bool) (v : Byte) : IgnoresStimulus (execALenhi e v) :=
  .requires _ (fun _ _ => rfl) (ignoresStimulus_next fun _ _ => rfl)

theorem execALenlo_ignoresStimulus (e : Bool) (v : Byte) : IgnoresStimulus (execALenlo e v) :=
  .requires _ (fun _ _ => rfl) (ignoresStimulus_next fun _ _ => rfl)

theorem execAOversize_ignoresStimulus (e : Bool) (v : Byte) : IgnoresStimulus (execAOversize e v) :=
  .requires _ (fun _ _ => rfl) (ignoresStimulus_next fun _ _ => rfl)

/-- The cell written is inside the buffer or not whatever the stimulus. -/
theorem execAData_ignoresStimulus (e : Bool) (v : Byte) : IgnoresStimulus (execAData e v) := by
  refine .requires _ (fun _ _ => rfl) fun s es => ?_
  by_cases hcell : s.pos - hdrLen + 4 ≤ s.cfg.maxFrame
  · simp [memWrite, hcell]
    rfl
  · simp [memWrite, hcell]

/-- Whether the sum is valid, and what is read on a valid one, is the same whatever the stimulus. -/
theorem execACsum_ignoresStimulus (e : Bool) (v : Byte) : IgnoresStimulus (execACsum e v) := by
  refine .requires _ (fun _ _ => rfl) (.ite (fun _ _ => Iff.rfl) (fun s es => ?_) (ignoresStimulus_next fun _ _ => rfl))
  have hread : memRead 0 (s.withStimulus es).dlen (s.withStimulus es) = memRead 0 s.dlen s := rfl
  simp only [hread]
  cases memRead 0 s.dlen s with
  | ok payload =>
    exact congrArg (fun t : State => Host.Outcome.next t.clear)
      (decodeSample_withStimulus payload (linkArrival (s.emitFrame payload)) es)
  | error r => rfl

theorem asmStep_ignoresStimulus (lb : LogicalByte) : IgnoresStimulus (asmStep lb) :=
  .ite (fun _ _ => Iff.rfl) (execAStart_ignoresStimulus _) <|
  .ite (fun _ _ => Iff.rfl) (execANostart_ignoresStimulus _ _) <|
  .ite (fun _ _ => Iff.rfl) execAResync_ignoresStimulus <|
  .ite (fun _ _ => Iff.rfl) (execALenhi_ignoresStimulus _ _) <|
  .ite (fun _ _ => Iff.rfl) (execALenlo_ignoresStimulus _ _) <|
  .ite (fun _ _ => Iff.rfl) (execAOversize_ignoresStimulus _ _) <|
  .ite (fun _ _ => Iff.rfl) (execAData_ignoresStimulus _ _) (execACsum_ignoresStimulus _ _)

/-- A raw byte's operation hands at most one logical byte to the FrameAssembler. -/
theorem exec_selected_raw_ignoresStimulus (b : Byte) : IgnoresStimulus fun s => exec (s.selected (.raw b)) s.begin := by
  intro s es
  simp only [exec_selected_raw, withStimulus_escPending]
  split
  · rfl
  · next esc lb _ => exact asmStep_ignoresStimulus lb (s.begin.setEsc esc) es

theorem perform_ignoresStimulus (e : Event) : IgnoresStimulus (perform e) := by
  have hclassify : IgnoresStimulus (exec .lClassify) := ignoresStimulus_next fun _ _ => rfl
  cases e with
  | raw b => exact (exec_selected_raw_ignoresStimulus b).andThen hclassify
  | tick | lreset | reset => exact ignoresStimulus_next fun _ _ => rfl

theorem performAll_ignoresStimulus (es : List Event) : IgnoresStimulus (performAll es) := by
  induction es with
  | nil => exact ignoresStimulus_next fun _ _ => rfl
  | cons e es ih => exact (perform_ignoresStimulus e).andThen ih

/-! ## The host's run of a loaded stimulus (R167, R170) -/

/-- The host's run, typed by the machine's own states and answers. -/
def runSteps (n : Nat) (s : State) : Answer := Host.Core.run Sys2Proof.core n s

theorem run_eq_runSteps (n : Nat) (s : State) : Host.Core.run Sys2Proof.core n s = runSteps n s := rfl

/-- One more step of any core's run, by what the step answers. -/
theorem run_succ_of_step (M : Host.Core) (n : Nat) (s : M.State) (o : Host.Outcome M.State M.Fault M.Refusal) :
    M.step s = o →
      M.run (n + 1) s =
        match o with
        | .next t => M.run n t
        | .fault r => .fault r
        | .refused r => .refused r := by
  rintro rfl
  rfl

theorem runSteps_succ (n : Nat) (s : State) : runSteps (n + 1) s = andThen (step s) (runSteps n) := by
  cases h : step s <;> exact run_succ_of_step Sys2Proof.core n s _ h

theorem withStimulus_eq_self {s : State} {es : List Event} (h : s.stimulus = es) : s.withStimulus es = s := by
  subst h
  rfl

theorem step_withStimulus_cons (e : Event) (es : List Event) (s : State) :
    step (s.withStimulus (e :: es)) = perform e (s.withStimulus es) :=
  step_cons rfl

/-- As many steps as events were loaded perform just those events, and leave none. -/
theorem runSteps_withStimulus (es : List Event) (s : State) :
    runSteps es.length (s.withStimulus es) = andThen (performAll es s) fun t => .next (t.withStimulus []) := by
  induction es generalizing s with
  | nil => rfl
  | cons e es ih =>
    calc runSteps (es.length + 1) (s.withStimulus (e :: es))
        = andThen (perform e (s.withStimulus es)) (runSteps es.length) := by
          rw [runSteps_succ, step_withStimulus_cons]
      _ = andThen (perform e s) fun t => runSteps es.length (t.withStimulus es) := by
          rw [perform_ignoresStimulus e s es, andThen_assoc]
          rfl
      _ = andThen (perform e s) fun t => andThen (performAll es t) fun u => .next (u.withStimulus []) := by
          rw [funext ih]
      _ = andThen (performAll (e :: es) s) fun u => .next (u.withStimulus []) :=
          (andThen_assoc _ _ _).symm

/-- Settles O57: the run starts and, as no operation loads a stimulus, ends in a state with none. -/
theorem stepsPerformTheStimulus : Obligations.StepsPerformTheStimulus := by
  unfold Obligations.StepsPerformTheStimulus
  intro es s t hs h
  have hignores := performAll_ignoresStimulus es s []
  rw [withStimulus_eq_self hs] at hignores
  have hrun : runSteps es.length (s.withStimulus es) = performAll es s :=
    (runSteps_withStimulus es s).trans hignores.symm
  exact (run_eq_runSteps _ _).trans (hrun.trans h)

/-- Two lists of events loaded one after the other are performed as their concatenation loaded at once. -/
theorem runSteps_append (es fs : List Event) (s : State) :
    runSteps (es ++ fs).length (s.withStimulus (es ++ fs)) =
      andThen (runSteps es.length (s.withStimulus es)) fun t => runSteps fs.length (t.withStimulus fs) := by
  calc runSteps (es ++ fs).length (s.withStimulus (es ++ fs))
      = andThen (performAll (es ++ fs) s) fun u => .next (u.withStimulus []) := runSteps_withStimulus _ s
    _ = andThen (performAll es s) fun t => andThen (performAll fs t) fun u => .next (u.withStimulus []) := by
        rw [performAll_append, andThen_assoc]
    _ = andThen (performAll es s) fun t => runSteps fs.length (t.withStimulus fs) := by
        rw [funext (runSteps_withStimulus fs)]
    _ = andThen (runSteps es.length (s.withStimulus es)) fun t => runSteps fs.length (t.withStimulus fs) := by
        rw [runSteps_withStimulus es, andThen_assoc]
        rfl

theorem batch_append (xs ys : List Byte) : batch (xs ++ ys) = batch xs ++ batch ys := List.map_append

theorem length_batch (xs : List Byte) : (batch xs).length = xs.length := List.length_map _

/-- Settles O56: the batches are lists of events, which append, and every list completes under the invariant. -/
theorem batchesSplitAnywhere : Obligations.BatchesSplitAnywhere := by
  unfold Obligations.BatchesSplitAnywhere
  refine ⟨fun xs ys s => ?_, fun xs s hs => ?_⟩
  · have hsplit := runSteps_append (batch xs) (batch ys) s
    rw [← batch_append, length_batch, length_batch, length_batch] at hsplit
    exact hsplit
  · obtain ⟨t, ht, htInv⟩ := performAll_completes (batch xs) hs
    have hrun := runSteps_withStimulus (batch xs) s
    rw [ht, length_batch] at hrun
    exact ⟨t.withStimulus [], (run_eq_runSteps _ _).trans hrun, htInv, rfl⟩

end Sys2Proof.Machine
end

section
/-! SUPPORT. Exceptions and what no step lets through (60_exceptions.md): a state that differs in the LinkWatcher alone is
answered alike but for the LinkWatcher (R195), each error changes what its row of R190 names, of simultaneous conditions
the one R189 names is reported, and with no event left the block is idle (R198). -/

namespace Sys2Proof.Machine

/-! ## The frame path does not depend on the LinkWatcher (R195) -/

theorem AgreeButLink.refl (s : State) : AgreeButLink s s := ⟨rfl, rfl, rfl, rfl⟩

/-- All that such a state has of its own are the LinkWatcher's registers and output. -/
theorem AgreeButLink.eq_withLink {s₁ s₂ : State} (h : AgreeButLink s₁ s₂) :
    s₂ = (s₁.withLink s₂.link).driveLink s₂.linkOut := by
  cases s₁
  cases s₂
  obtain ⟨hpath, rfl, rfl, rfl⟩ := h
  obtain ⟨rfl, rfl, rfl, rfl, rfl, rfl, rfl, rfl⟩ := FramePath.mk.inj hpath
  rfl

/-- No guard or value of the FrameAssembler reads the link output. -/
theorem AsmEffect.driveLink {lb : LogicalByte} {s t : State} (h : AsmEffect lb s t) (o : LinkState) :
    AsmEffect lb (s.driveLink o) (t.driveLink o) := by
  cases h with
  | start hpos hv => exact .start hpos hv
  | nostart hpos hv => exact .nostart hpos hv
  | resync hpos hv he => exact .resync hpos hv he
  | lenhi hpos hf => exact .lenhi hpos hf
  | lenlo hpos hf => exact .lenlo hpos hf
  | oversize hpos hmax hf => exact .oversize hpos hmax hf
  | data hpos hmax hlen hf => exact .data hpos hmax hlen hf
  | frame payload hpos hmax hlen hf hsum hread =>
    have hsame : (decodeSample payload (linkArrival ((s.driveLink o).emitFrame payload))).clear =
        (decodeSample payload (linkArrival (s.emitFrame payload))).clear.driveLink o :=
      congrArg State.clear (decodeSample_driveLink payload (linkArrival (s.emitFrame payload)) o)
    rw [← hsame]
    exact .frame payload hpos hmax hlen hf hsum hread
  | badSum hpos hmax hlen hf hsum => exact .badSum hpos hmax hlen hf hsum

/-- The link output of the step before is overwritten and never read (R168). -/
theorem perform_driveLink {e : Event} {s t : State} (h : perform e s = .next t) (o : LinkState) :
    perform e (s.driveLink o) = .next t := by
  cases e with
  | raw b =>
    obtain ⟨u, hu, rfl⟩ := perform_next h
    cases hu with
    | escape _ hd => exact (EventEffect.escape (s := s.driveLink o) b hd).perform_raw_eq
    | deliver _ lb _ hd hu =>
      exact (EventEffect.deliver (s := s.driveLink o) b lb _ hd (hu.driveLink o)).perform_raw_eq
  | tick | lreset | reset => exact h

/-- From other link registers an event is answered as well: a raw byte that completes a frame overwrites them, one that
does not keeps them, and no other event lets them reach the frame path. -/
theorem perform_withLink {e : Event} {s t : State} (h : perform e s = .next t) (l : LinkRegisters) :
    ∃ t', perform e (s.withLink l) = .next t' ∧ AgreeButLink t t' := by
  cases e with
  | raw b =>
    cases hr : t.result.frameOk with
    | false => exact ⟨t.withLink l, perform_raw_withLink h hr l, rfl, rfl, rfl, rfl⟩
    | true => exact ⟨t, perform_raw_withLink_of_frameOk h hr l, AgreeButLink.refl t⟩
  | tick | lreset | reset =>
    obtain rfl := Host.Outcome.next.inj h
    exact ⟨_, rfl, rfl, rfl, rfl, rfl⟩

theorem perform_of_agreeButLink {e : Event} {s₁ s₂ t₁ : State} (hs : AgreeButLink s₁ s₂)
    (h : perform e s₁ = .next t₁) : ∃ t₂, perform e s₂ = .next t₂ ∧ AgreeButLink t₁ t₂ := by
  obtain ⟨t₂, ht₂, hagree⟩ := perform_withLink h s₂.link
  refine ⟨t₂, ?_, hagree⟩
  rw [hs.eq_withLink]
  exact perform_driveLink ht₂ s₂.linkOut

/-- Settles O46: both states have the same next event, or none. -/
theorem stepKeepsAgreementButLink : Obligations.StepKeepsAgreementButLink := by
  unfold Obligations.StepKeepsAgreementButLink
  intro s₁ s₂ t₁ hs h
  obtain ⟨hpath, hcfg, hstimulus, hresult⟩ := hs
  cases hs₁ : s₁.stimulus with
  | nil =>
    obtain rfl : s₁ = t₁ := Host.Outcome.next.inj ((step_nil hs₁).symm.trans h)
    exact ⟨s₂, step_nil (hstimulus.symm.trans hs₁), hpath, hcfg, hstimulus, hresult⟩
  | cons e rest =>
    have hagree : AgreeButLink { s₁ with stimulus := rest } { s₂ with stimulus := rest } :=
      ⟨hpath, hcfg, rfl, hresult⟩
    rw [step_cons hs₁] at h
    rw [step_cons (hstimulus.symm.trans hs₁)]
    exact perform_of_agreeButLink hagree h

/-- The step lemma along a run: the second run completes as well, with the same results on the way. -/
theorem performAll_of_agreeButLink (es : List Event) {s₁ s₂ t₁ : State} (hs : AgreeButLink s₁ s₂)
    (h : performAll es s₁ = .next t₁) :
    ∃ t₂, performAll es s₂ = .next t₂ ∧ AgreeButLink t₁ t₂ ∧
      (trace es s₁).map Prod.fst = (trace es s₂).map Prod.fst := by
  induction es generalizing s₁ s₂ with
  | nil =>
    obtain rfl := Host.Outcome.next.inj h
    exact ⟨s₂, rfl, hs, rfl⟩
  | cons e es ih =>
    obtain ⟨u₁, hu₁, h⟩ := (andThen_eq_next_iff _ _ _).1 h
    obtain ⟨u₂, hu₂, hagree⟩ := perform_of_agreeButLink hs hu₁
    obtain ⟨t₂, ht₂, ht, htrace⟩ := ih hagree h
    obtain ⟨-, -, -, hresult⟩ := hagree
    refine ⟨t₂, (performAll_cons_of_next es hu₂).trans ht₂, ht, ?_⟩
    rw [trace_cons_of_next es hu₁, trace_cons_of_next es hu₂, List.map_cons, List.map_cons, hresult, htrace]

/-- What a run shows does not depend on the events loaded after it (log entry 1). -/
theorem trace_withStimulus (es fs : List Event) (s : State) : trace es (s.withStimulus fs) = trace es s := by
  induction es generalizing s with
  | nil => rfl
  | cons e es ih =>
    rw [trace, trace, perform_ignoresStimulus e s fs]
    cases perform e s with
    | next t => exact congrArg ((t.result, t.outputs) :: ·) (ih t)
    | fault | refused => rfl

/-- Settles O45: with the first state's stimulus in the second the two agree but in the LinkWatcher, and no run reads the
stimulus. -/
theorem linkNeverInfluencesTheFramePath : Obligations.LinkNeverInfluencesTheFramePath := by
  unfold Obligations.LinkNeverInfluencesTheFramePath
  intro es s₁ s₂ t₁ t₂ hpath hcfg hresult h₁ h₂
  have hagree : AgreeButLink s₁ (s₂.withStimulus s₁.stimulus) := ⟨hpath, hcfg, rfl, hresult⟩
  obtain ⟨u, hu, ⟨hpath', -, -, hresult'⟩, htrace⟩ := performAll_of_agreeButLink es hagree h₁
  rw [performAll_ignoresStimulus es s₂, h₂] at hu
  obtain rfl : t₂.withStimulus s₁.stimulus = u := Host.Outcome.next.inj hu
  rw [trace_withStimulus] at htrace
  exact ⟨hpath', hresult', htrace⟩

/-! ## What each error changes (R190) -/

/-- The row of R190 for an error: what holds of the state `t` after it, `s` being the state it found once the
descrambler's flag was cleared. -/
def ErrCode.EntrySays (e : ErrCode) (s t : State) : Prop :=
  match e with
  | .none => True
  | .noStart => t.framePath = s.framePath ∧ t.pos = 0 ∧ t.link = s.link
  | .unexpectedStart => t.framePath = ⟨s.escPending, 1, 0, 0, 0, [], s.sampleValid, s.sample⟩ ∧ t.link = s.link
  | .oversize | .checksum =>
    t.framePath = ⟨s.escPending, 0, 0, 0, 0, [], s.sampleValid, s.sample⟩ ∧ t.link = s.link
  | .truncated =>
    t.framePath = ⟨s.escPending, 0, 0, 0, 0, [], s.sampleValid, s.sample⟩ ∧ t.link = ⟨true, false, true, 0⟩

theorem entrySays_of_err_eq_none {s t : State} (h : t.result.err = .none) : t.result.err.EntrySays s t := by
  rw [h]
  trivial

/-- An operation of the FrameAssembler reports its own error, with that error's changes, or none. -/
theorem AsmEffect.entrySays {lb : LogicalByte} {s t : State} (h : AsmEffect lb s t) (hs : s.result.err = .none) :
    t.result.err.EntrySays s t := by
  cases h with
  | start | lenhi | lenlo | data => exact entrySays_of_err_eq_none hs
  | nostart hpos => exact ⟨rfl, hpos, rfl⟩
  | resync | oversize | badSum => exact ⟨rfl, rfl⟩
  | frame payload =>
    obtain hlen | hlen := Nat.lt_or_ge payload.length s.cfg.minPayloadLen
    · obtain ⟨hresult, hpath, hlink⟩ := validFrame_of_short hlen
      rw [hresult]
      exact ⟨hpath, hlink⟩
    · obtain ⟨hresult, -, -⟩ := validFrame_of_long hlen
      exact entrySays_of_err_eq_none (by rw [hresult]; exact hs)

theorem perform_raw_entrySays {s t : State} {b : Byte} (h : perform (.raw b) s = .next t) :
    t.result.err.EntrySays (s.setEsc false) t := by
  obtain ⟨u, hu, rfl⟩ := perform_next h
  cases hu with
  | escape => trivial
  | deliver _ lb _ hd hu => exact hu.entrySays rfl

/-- Settles O39: the row of the error reported, read off clause by clause. -/
theorem errorsChangeWhatTheirEntrySays : Obligations.ErrorsChangeWhatTheirEntrySays := by
  unfold Obligations.ErrorsChangeWhatTheirEntrySays
  intro s t b h
  have hentry := perform_raw_entrySays h
  refine ⟨fun he => ?_, fun he => ?_, ?_, fun he => ?_⟩
  · rwa [he] at hentry
  · rwa [he] at hentry
  · rintro (he | he) <;> rwa [he] at hentry
  · rwa [he] at hentry

/-! ## Which condition is reported (R189) -/

/-- What the FrameAssembler does with a logical byte is determined: the guards of R68 exclude each other. -/
theorem AsmEffect.unique {lb : LogicalByte} {s t u : State} (ht : AsmEffect lb s t) (hu : AsmEffect lb s u) : t = u :=
  Host.Outcome.next.inj (ht.asmStep_eq.symm.trans hu.asmStep_eq)

theorem notFreshStart_of_ne {lb : LogicalByte} (h : lb ≠ ⟨startMarker, false⟩) :
    notFreshStart lb.escaped lb.v = true := by
  refine (notFreshStart_eq_true_iff _ _).2 fun hfresh => h ?_
  obtain ⟨v, e⟩ := lb
  obtain ⟨rfl, rfl⟩ := hfresh
  rfl

/-- Every raw byte but an escape marker with no escape pending delivers (R61). -/
theorem descramble_of_delivers {esc : Bool} {b : Byte} (h : esc = true ∨ b ≠ escMarker) :
    descramble esc b = (false, some (if esc then ⟨unescape b, true⟩ else ⟨b, false⟩)) := by
  cases esc with
  | true => rfl
  | false => simpa [descramble] using h

theorem perform_raw_of_delivered {s : State} {b : Byte} {lb : LogicalByte} (hs : FrameInv s)
    (hd : descramble s.escPending b = (false, some lb)) :
    ∃ u, AsmEffect lb (s.begin.setEsc false) u ∧ perform (.raw b) s = .next (u.driveLink u.classify) := by
  obtain ⟨u, hu⟩ := asmStep_completes lb (s := s.begin.setEsc false) hs
  exact ⟨u, asmStep_next hu, (EventEffect.deliver b lb u hd (asmStep_next hu)).perform_raw_eq⟩

section Reported

variable {lb : LogicalByte} {s u : State} (h : AsmEffect lb s u)
include h

theorem AsmEffect.result_of_startMarker (hpos : s.pos = 0) (hv : lb.v = startMarker) : u.result = s.result := by
  obtain rfl := h.unique (.start hpos hv)
  rfl

theorem AsmEffect.result_of_freshStart (hpos : 0 < s.pos) (hlb : lb = ⟨startMarker, false⟩) :
    u.result = { s.result with err := .unexpectedStart, info := s.pos } ∧ u.pos = 1 := by
  obtain rfl := hlb
  obtain rfl := h.unique (.resync hpos rfl rfl)
  exact ⟨rfl, rfl⟩

/-- The bound is tested before the checksum octet is looked for. -/
theorem AsmEffect.result_of_bound (hpos : 3 ≤ s.pos) (hmax : s.cfg.maxFrame ≤ s.pos)
    (hf : notFreshStart lb.escaped lb.v = true) : u.result = { s.result with err := .oversize, info := s.dlen } := by
  obtain rfl := h.unique (.oversize hpos hmax hf)
  rfl

/-- The length of a payload is tested only once its sum is valid (R126, R107). -/
theorem AsmEffect.result_of_valid_short (hs : FrameInv s) (hpos : 3 ≤ s.pos) (hmax : s.pos < s.cfg.maxFrame)
    (hlen : s.pos = s.dlen + 3) (hf : notFreshStart lb.escaped lb.v = true) (hshort : s.dlen < s.cfg.minPayloadLen)
    (hsum : s.csum + lb.v = csumOk) : u.result.frameOk = true ∧ u.result.err = .truncated := by
  obtain ⟨-, -, hbuf, -⟩ := hs
  have hcells : s.buf.map Prod.fst = List.range s.dlen := by rw [hbuf, hlen, Nat.add_sub_cancel]
  have hread := memRead_of_map_fst_eq_range hcells
  obtain ⟨hlength, -⟩ := (memRead_eq_ok_iff _ _ _ _).1 hread
  obtain ⟨hresult, -, -⟩ := validFrame_of_short (hlength.trans_lt hshort)
  obtain rfl := h.unique (.frame _ hpos hmax hlen hf hsum hread)
  rw [hresult]
  exact ⟨rfl, rfl⟩

theorem AsmEffect.result_of_invalid (hpos : 3 ≤ s.pos) (hmax : s.pos < s.cfg.maxFrame) (hlen : s.pos = s.dlen + 3)
    (hf : notFreshStart lb.escaped lb.v = true) (hsum : s.csum + lb.v ≠ csumOk) :
    u.result = { s.result with err := .checksum, info := (s.csum + lb.v).toNat } := by
  obtain rfl := h.unique (.badSum hpos hmax hlen hf hsum)
  rfl

end Reported

/-- Settles O40: the byte is delivered, and under each row's conditions the guards of R68 leave one operation, whose
result is the row's. -/
theorem priorityAmongSimultaneousConditions : Obligations.PriorityAmongSimultaneousConditions := by
  unfold Obligations.PriorityAmongSimultaneousConditions
  intro s b hs lb short hdelivers
  obtain ⟨u, hu, hperform⟩ := perform_raw_of_delivered hs (descramble_of_delivers hdelivers)
  refine ⟨_, hperform, hu.result_of_startMarker, hu.result_of_freshStart, ?_, ?_, ?_⟩
  · intro hmax hlb
    have hleast : 4 ≤ s.cfg.maxFrame := hs.1.1
    exact hu.result_of_bound (show 3 ≤ s.pos by omega) hmax.ge (notFreshStart_of_ne hlb)
  · exact fun hpos hmax hlen hlb hshort hsum =>
      hu.result_of_valid_short hs hpos hmax hlen (notFreshStart_of_ne hlb) hshort hsum
  · exact fun hpos hmax hlen hlb _ hsum => hu.result_of_invalid hpos hmax hlen (notFreshStart_of_ne hlb) hsum

/-! ## No event (R198) -/

/-- Settles O9: the idle branch of the step. -/
theorem stepWithoutEventIsIdle : Obligations.StepWithoutEventIsIdle := by
  unfold Obligations.StepWithoutEventIsIdle
  exact fun _ => step_nil

end Sys2Proof.Machine
end

section
/-! SUPPORT. The reset of the whole block (70_reset_and_hazards.md R210): the operation as one record, and what the
`RESET` event makes of it. -/

namespace Sys2Proof.Machine

/-- R210's assignments together write every register of R31; what survives is what R31 does not name: the parameters and
the model's own fields. -/
theorem resetBlock_eq_resetOf (s : State) :
    resetBlock s =
      { State.resetOf s.cfg with stimulus := s.stimulus, result := s.result, linkOut := s.linkOut } := rfl

/-- `X.RESET` has no `requires` line. -/
theorem exec_xReset (s : State) : exec .xReset s = .next (resetBlock s) := rfl

/-- A step's start has cleared the result, and `classify()` of the reset registers is `Silent`: of the model's own fields
only the events still to be delivered remain. -/
theorem resetBlock_begin_driveLink_silent (s : State) :
    (resetBlock s.begin).driveLink .silent = { State.resetOf s.cfg with stimulus := s.stimulus } := by
  rw [resetBlock_eq_resetOf, begin_cfg, begin_stimulus, begin_result]
  rfl

/-- Settles O35: `X.RESET` overwrites every register, and the event adds the cleared result and the link output. -/
theorem blockResetGivesTheResetState : Obligations.BlockResetGivesTheResetState := by
  unfold Obligations.BlockResetGivesTheResetState
  intro s
  constructor
  · rw [exec_xReset, resetBlock_eq_resetOf]
  · rw [perform_reset, resetBlock_begin_driveLink_silent]

end Sys2Proof.Machine
end
